-- ==== Sys2Proof/Word.lean ====
section
/-! DEFINITION. The two word types of the block: the byte (8-bit cells, memory) and the 16-bit
word (addresses, register pairs, SP, PC, div). Rules R8, R10 and R20 to R26 of the spec. -/

namespace Sys2Proof

/-- A byte: the addressable unit and the width of a data register (R8). -/
abbrev Byte := BitVec 8

/-- A 16-bit word: SP, PC, an address, a register pair (R8). -/
abbrev Word := BitVec 16

end Sys2Proof
end

