-- ==== Sys2Proof/Machine/Bits.lean ====
section
/-! DEFINITION. Bit-field, byte-order and sign-extension helpers (R10). -/

namespace Sys2Proof.Machine

/-- `v[15:8]`. -/
def hi8 (v : Word) : Byte := v.extractLsb' 8 8

/-- `v[7:0]`. -/
def lo8 (v : Word) : Byte := v.extractLsb' 0 8

/-- `hi ++ lo = hi*256 + lo` (R10): register pairs (R22), immediate words (R13), stack words (R14). -/
def cat (hi lo : Byte) : Word := hi ++ lo

/-- `sext_16(e)` (R10): `e` if bit 7 is 0, else `e + 0xFF00`. -/
def sext16 (e : Byte) : Word := e.signExtend 16

/-- `zext_16(v)` (R10). -/
def zext16 (v : Byte) : Word := v.setWidth 16

/-- The high-page address `0xFF00 + n` of LDH and LD (C) (R109). -/
def highPage (n : Byte) : Word := 0xFF00 + zext16 n

end Sys2Proof.Machine
end

