-- ==== Sys2Proof/Machine/Forms.lean ====
section
/-! DEFINITION. The operand classes of R19 with their codes (R102 to R107), and the FORM of an instruction:
the rule of files 40 to 46 that its table row names, with the operands the row fixes. `Instr` has one
constructor for each row, so many rows share one rule; `Instr.form` says which rule a row follows. The
encoder (Decode.lean) is written over forms, from each rule's encoding formula; claims are stated over
forms too. -/

namespace Sys2Proof

open Sys2Proof.Machine

/-- An 8-bit register operand (R102, the codes other than 6). -/
inductive Reg8 where
  | b | c | d | e | h | l | a
  deriving DecidableEq, Repr

/-- A register-pair operand rr (R103). -/
inductive Pair where
  | bc | de | hl | sp
  deriving DecidableEq, Repr

/-- A push/pop pair operand qq (R104). -/
inductive StackPair where
  | bc | de | hl | af
  deriving DecidableEq, Repr

/-- A condition (R105). -/
inductive Cond where
  | nz | z | nc | c
  deriving DecidableEq, Repr

/-- An 8-bit ALU operation (R106). -/
inductive AluOp where
  | add | adc | sub | sbc | and | xor | or | cp
  deriving DecidableEq, Repr

/-- A rotate, shift or swap of the CB table (R107, group 0). -/
inductive RotOp where
  | rlc | rrc | rl | rr | sla | sra | swap | srl
  deriving DecidableEq, Repr

/-- The code of R102. -/
def Reg8.code : Reg8 → Nat
  | .b => 0 | .c => 1 | .d => 2 | .e => 3 | .h => 4 | .l => 5 | .a => 7

/-- The code of R103. -/
def Pair.code : Pair → Nat
  | .bc => 0 | .de => 1 | .hl => 2 | .sp => 3

/-- The code of R104. -/
def StackPair.code : StackPair → Nat
  | .bc => 0 | .de => 1 | .hl => 2 | .af => 3

/-- The code of R105. -/
def Cond.code : Cond → Nat
  | .nz => 0 | .z => 1 | .nc => 2 | .c => 3

/-- The code of R106. -/
def AluOp.code : AluOp → Nat
  | .add => 0 | .adc => 1 | .sub => 2 | .sbc => 3 | .and => 4 | .xor => 5 | .or => 6 | .cp => 7

/-- The code of R107. -/
def RotOp.code : RotOp → Nat
  | .rlc => 0 | .rrc => 1 | .rl => 2 | .rr => 3 | .sla => 4 | .sra => 5 | .swap => 6 | .srl => 7

/-- One constructor for each instruction rule of files 40 to 46 (the ALU and rotate rules, which
come in rows of eight operations, carry the operation). -/
inductive Form where
  -- 40_load8.md
  | ldRR (r r2 : Reg8)               -- R140
  | ldRN (r : Reg8) (n : Byte)       -- R141
  | ldRHl (r : Reg8)                 -- R142
  | ldHlR (r : Reg8)                 -- R143
  | ldHlN (n : Byte)                 -- R144
  | ldABc                            -- R145
  | ldADe                            -- R146
  | ldBcA                            -- R147
  | ldDeA                            -- R148
  | ldANn (nn : Word)                -- R149
  | ldNnA (nn : Word)                -- R150
  | ldhAN (n : Byte)                 -- R154
  | ldhNA (n : Byte)                 -- R155
  | ldAC                             -- R156
  | ldCA                             -- R157
  | ldHliA                           -- R158
  | ldHldA                           -- R159
  | ldAHli                           -- R160
  | ldAHld                           -- R161
  -- 41_load16.md
  | ldRrNn (p : Pair) (nn : Word)    -- R180
  | ldNnSp (nn : Word)               -- R181
  | ldSpHl                           -- R182
  | ldHlSpE (e : Byte)               -- R183
  | push (q : StackPair)             -- R184
  | pop (q : StackPair)              -- R185
  -- 42_alu8.md
  | aluR (op : AluOp) (r : Reg8)     -- R202, R205, R208, R211, R214, R217, R220, R223
  | aluHl (op : AluOp)               -- R203, R206, R209, R212, R215, R218, R221, R224
  | aluN (op : AluOp) (n : Byte)     -- R204, R207, R210, R213, R216, R219, R222, R225
  | incR (r : Reg8)                  -- R226
  | incHl                            -- R227
  | decR (r : Reg8)                  -- R228
  | decHl                            -- R229
  | daa                              -- R230
  | cpl                              -- R231
  | scf                              -- R232
  | ccf                              -- R233
  -- 43_alu16.md
  | addHl (p : Pair)                 -- R240
  | incRr (p : Pair)                 -- R241
  | decRr (p : Pair)                 -- R242
  | addSpE (e : Byte)                -- R244
  -- 44_bitops.md
  | rlca                             -- R260
  | rrca                             -- R261
  | rla                              -- R262
  | rra                              -- R263
  | rotR (op : RotOp) (r : Reg8)     -- R265, R267, R269, R271, R273, R275, R277, R279
  | rotHl (op : RotOp)               -- R266, R268, R270, R272, R274, R276, R278, R280
  | bitR (b : Fin 8) (r : Reg8)      -- R281
  | bitHl (b : Fin 8)                -- R282
  | resR (b : Fin 8) (r : Reg8)      -- R283
  | resHl (b : Fin 8)                -- R284
  | setR (b : Fin 8) (r : Reg8)      -- R285
  | setHl (b : Fin 8)                -- R286
  -- 45_control.md
  | jp (nn : Word)                   -- R301
  | jpCc (cc : Cond) (nn : Word)     -- R302
  | jpHl                             -- R303
  | jr (e : Byte)                    -- R304
  | jrCc (cc : Cond) (e : Byte)      -- R305
  | call (nn : Word)                 -- R306
  | callCc (cc : Cond) (nn : Word)   -- R307
  | ret                              -- R308
  | retCc (cc : Cond)                -- R309
  | rst (y : Fin 8)                  -- R310, the target is 8*y
  | reti                             -- R311
  -- 46_system.md
  | nop                              -- R340
  | halt                             -- R341
  | stop (x : Byte)                  -- R342
  | di                               -- R343
  | ei                               -- R344
  | unsupported (op : Byte)          -- R346
  deriving DecidableEq, Repr


/-- Which rule an instruction follows and with which operands (the `rule` column of the table). -/
def Instr.form : Instr → Form
  | .nop => .nop
  | .ld_BC_nn nn => .ldRrNn .bc nn
  | .ld_AtBC_A => .ldBcA
  | .inc_BC => .incRr .bc
  | .inc_B => .incR .b
  | .dec_B => .decR .b
  | .ld_B_n n => .ldRN .b n
  | .rlca => .rlca
  | .ld_AtNN_SP nn => .ldNnSp nn
  | .add_HL_BC => .addHl .bc
  | .ld_A_AtBC => .ldABc
  | .dec_BC => .decRr .bc
  | .inc_C => .incR .c
  | .dec_C => .decR .c
  | .ld_C_n n => .ldRN .c n
  | .rrca => .rrca
  | .stop x => .stop x
  | .ld_DE_nn nn => .ldRrNn .de nn
  | .ld_AtDE_A => .ldDeA
  | .inc_DE => .incRr .de
  | .inc_D => .incR .d
  | .dec_D => .decR .d
  | .ld_D_n n => .ldRN .d n
  | .rla => .rla
  | .jr_e e => .jr e
  | .add_HL_DE => .addHl .de
  | .ld_A_AtDE => .ldADe
  | .dec_DE => .decRr .de
  | .inc_E => .incR .e
  | .dec_E => .decR .e
  | .ld_E_n n => .ldRN .e n
  | .rra => .rra
  | .jr_NZ_e e => .jrCc .nz e
  | .ld_HL_nn nn => .ldRrNn .hl nn
  | .ld_AtHLI_A => .ldHliA
  | .inc_HL => .incRr .hl
  | .inc_H => .incR .h
  | .dec_H => .decR .h
  | .ld_H_n n => .ldRN .h n
  | .daa => .daa
  | .jr_Z_e e => .jrCc .z e
  | .add_HL_HL => .addHl .hl
  | .ld_A_AtHLI => .ldAHli
  | .dec_HL => .decRr .hl
  | .inc_L => .incR .l
  | .dec_L => .decR .l
  | .ld_L_n n => .ldRN .l n
  | .cpl => .cpl
  | .jr_NC_e e => .jrCc .nc e
  | .ld_SP_nn nn => .ldRrNn .sp nn
  | .ld_AtHLD_A => .ldHldA
  | .inc_SP => .incRr .sp
  | .inc_AtHL => .incHl
  | .dec_AtHL => .decHl
  | .ld_AtHL_n n => .ldHlN n
  | .scf => .scf
  | .jr_C_e e => .jrCc .c e
  | .add_HL_SP => .addHl .sp
  | .ld_A_AtHLD => .ldAHld
  | .dec_SP => .decRr .sp
  | .inc_A => .incR .a
  | .dec_A => .decR .a
  | .ld_A_n n => .ldRN .a n
  | .ccf => .ccf
  | .ld_B_B => .ldRR .b .b
  | .ld_B_C => .ldRR .b .c
  | .ld_B_D => .ldRR .b .d
  | .ld_B_E => .ldRR .b .e
  | .ld_B_H => .ldRR .b .h
  | .ld_B_L => .ldRR .b .l
  | .ld_B_AtHL => .ldRHl .b
  | .ld_B_A => .ldRR .b .a
  | .ld_C_B => .ldRR .c .b
  | .ld_C_C => .ldRR .c .c
  | .ld_C_D => .ldRR .c .d
  | .ld_C_E => .ldRR .c .e
  | .ld_C_H => .ldRR .c .h
  | .ld_C_L => .ldRR .c .l
  | .ld_C_AtHL => .ldRHl .c
  | .ld_C_A => .ldRR .c .a
  | .ld_D_B => .ldRR .d .b
  | .ld_D_C => .ldRR .d .c
  | .ld_D_D => .ldRR .d .d
  | .ld_D_E => .ldRR .d .e
  | .ld_D_H => .ldRR .d .h
  | .ld_D_L => .ldRR .d .l
  | .ld_D_AtHL => .ldRHl .d
  | .ld_D_A => .ldRR .d .a
  | .ld_E_B => .ldRR .e .b
  | .ld_E_C => .ldRR .e .c
  | .ld_E_D => .ldRR .e .d
  | .ld_E_E => .ldRR .e .e
  | .ld_E_H => .ldRR .e .h
  | .ld_E_L => .ldRR .e .l
  | .ld_E_AtHL => .ldRHl .e
  | .ld_E_A => .ldRR .e .a
  | .ld_H_B => .ldRR .h .b
  | .ld_H_C => .ldRR .h .c
  | .ld_H_D => .ldRR .h .d
  | .ld_H_E => .ldRR .h .e
  | .ld_H_H => .ldRR .h .h
  | .ld_H_L => .ldRR .h .l
  | .ld_H_AtHL => .ldRHl .h
  | .ld_H_A => .ldRR .h .a
  | .ld_L_B => .ldRR .l .b
  | .ld_L_C => .ldRR .l .c
  | .ld_L_D => .ldRR .l .d
  | .ld_L_E => .ldRR .l .e
  | .ld_L_H => .ldRR .l .h
  | .ld_L_L => .ldRR .l .l
  | .ld_L_AtHL => .ldRHl .l
  | .ld_L_A => .ldRR .l .a
  | .ld_AtHL_B => .ldHlR .b
  | .ld_AtHL_C => .ldHlR .c
  | .ld_AtHL_D => .ldHlR .d
  | .ld_AtHL_E => .ldHlR .e
  | .ld_AtHL_H => .ldHlR .h
  | .ld_AtHL_L => .ldHlR .l
  | .halt => .halt
  | .ld_AtHL_A => .ldHlR .a
  | .ld_A_B => .ldRR .a .b
  | .ld_A_C => .ldRR .a .c
  | .ld_A_D => .ldRR .a .d
  | .ld_A_E => .ldRR .a .e
  | .ld_A_H => .ldRR .a .h
  | .ld_A_L => .ldRR .a .l
  | .ld_A_AtHL => .ldRHl .a
  | .ld_A_A => .ldRR .a .a
  | .add_A_B => .aluR .add .b
  | .add_A_C => .aluR .add .c
  | .add_A_D => .aluR .add .d
  | .add_A_E => .aluR .add .e
  | .add_A_H => .aluR .add .h
  | .add_A_L => .aluR .add .l
  | .add_A_AtHL => .aluHl .add
  | .add_A_A => .aluR .add .a
  | .adc_A_B => .aluR .adc .b
  | .adc_A_C => .aluR .adc .c
  | .adc_A_D => .aluR .adc .d
  | .adc_A_E => .aluR .adc .e
  | .adc_A_H => .aluR .adc .h
  | .adc_A_L => .aluR .adc .l
  | .adc_A_AtHL => .aluHl .adc
  | .adc_A_A => .aluR .adc .a
  | .sub_B => .aluR .sub .b
  | .sub_C => .aluR .sub .c
  | .sub_D => .aluR .sub .d
  | .sub_E => .aluR .sub .e
  | .sub_H => .aluR .sub .h
  | .sub_L => .aluR .sub .l
  | .sub_AtHL => .aluHl .sub
  | .sub_A => .aluR .sub .a
  | .sbc_A_B => .aluR .sbc .b
  | .sbc_A_C => .aluR .sbc .c
  | .sbc_A_D => .aluR .sbc .d
  | .sbc_A_E => .aluR .sbc .e
  | .sbc_A_H => .aluR .sbc .h
  | .sbc_A_L => .aluR .sbc .l
  | .sbc_A_AtHL => .aluHl .sbc
  | .sbc_A_A => .aluR .sbc .a
  | .and_B => .aluR .and .b
  | .and_C => .aluR .and .c
  | .and_D => .aluR .and .d
  | .and_E => .aluR .and .e
  | .and_H => .aluR .and .h
  | .and_L => .aluR .and .l
  | .and_AtHL => .aluHl .and
  | .and_A => .aluR .and .a
  | .xor_B => .aluR .xor .b
  | .xor_C => .aluR .xor .c
  | .xor_D => .aluR .xor .d
  | .xor_E => .aluR .xor .e
  | .xor_H => .aluR .xor .h
  | .xor_L => .aluR .xor .l
  | .xor_AtHL => .aluHl .xor
  | .xor_A => .aluR .xor .a
  | .or_B => .aluR .or .b
  | .or_C => .aluR .or .c
  | .or_D => .aluR .or .d
  | .or_E => .aluR .or .e
  | .or_H => .aluR .or .h
  | .or_L => .aluR .or .l
  | .or_AtHL => .aluHl .or
  | .or_A => .aluR .or .a
  | .cp_B => .aluR .cp .b
  | .cp_C => .aluR .cp .c
  | .cp_D => .aluR .cp .d
  | .cp_E => .aluR .cp .e
  | .cp_H => .aluR .cp .h
  | .cp_L => .aluR .cp .l
  | .cp_AtHL => .aluHl .cp
  | .cp_A => .aluR .cp .a
  | .ret_NZ => .retCc .nz
  | .pop_BC => .pop .bc
  | .jp_NZ_nn nn => .jpCc .nz nn
  | .jp_nn nn => .jp nn
  | .call_NZ_nn nn => .callCc .nz nn
  | .push_BC => .push .bc
  | .add_A_n n => .aluN .add n
  | .rst_00 => .rst 0
  | .ret_Z => .retCc .z
  | .ret => .ret
  | .jp_Z_nn nn => .jpCc .z nn
  | .call_Z_nn nn => .callCc .z nn
  | .call_nn nn => .call nn
  | .adc_A_n n => .aluN .adc n
  | .rst_08 => .rst 1
  | .ret_NC => .retCc .nc
  | .pop_DE => .pop .de
  | .jp_NC_nn nn => .jpCc .nc nn
  | .call_NC_nn nn => .callCc .nc nn
  | .push_DE => .push .de
  | .sub_n n => .aluN .sub n
  | .rst_10 => .rst 2
  | .ret_C => .retCc .c
  | .reti => .reti
  | .jp_C_nn nn => .jpCc .c nn
  | .call_C_nn nn => .callCc .c nn
  | .sbc_A_n n => .aluN .sbc n
  | .rst_18 => .rst 3
  | .ldh_AtN_A n => .ldhNA n
  | .pop_HL => .pop .hl
  | .ld_AtC_A => .ldCA
  | .push_HL => .push .hl
  | .and_n n => .aluN .and n
  | .rst_20 => .rst 4
  | .add_SP_e e => .addSpE e
  | .jp_HL => .jpHl
  | .ld_AtNN_A nn => .ldNnA nn
  | .xor_n n => .aluN .xor n
  | .rst_28 => .rst 5
  | .ldh_A_AtN n => .ldhAN n
  | .pop_AF => .pop .af
  | .ld_A_AtC => .ldAC
  | .di => .di
  | .push_AF => .push .af
  | .or_n n => .aluN .or n
  | .rst_30 => .rst 6
  | .ld_HL_SPe e => .ldHlSpE e
  | .ld_SP_HL => .ldSpHl
  | .ld_A_AtNN nn => .ldANn nn
  | .ei => .ei
  | .cp_n n => .aluN .cp n
  | .rst_38 => .rst 7
  | .rlc_B => .rotR .rlc .b
  | .rlc_C => .rotR .rlc .c
  | .rlc_D => .rotR .rlc .d
  | .rlc_E => .rotR .rlc .e
  | .rlc_H => .rotR .rlc .h
  | .rlc_L => .rotR .rlc .l
  | .rlc_AtHL => .rotHl .rlc
  | .rlc_A => .rotR .rlc .a
  | .rrc_B => .rotR .rrc .b
  | .rrc_C => .rotR .rrc .c
  | .rrc_D => .rotR .rrc .d
  | .rrc_E => .rotR .rrc .e
  | .rrc_H => .rotR .rrc .h
  | .rrc_L => .rotR .rrc .l
  | .rrc_AtHL => .rotHl .rrc
  | .rrc_A => .rotR .rrc .a
  | .rl_B => .rotR .rl .b
  | .rl_C => .rotR .rl .c
  | .rl_D => .rotR .rl .d
  | .rl_E => .rotR .rl .e
  | .rl_H => .rotR .rl .h
  | .rl_L => .rotR .rl .l
  | .rl_AtHL => .rotHl .rl
  | .rl_A => .rotR .rl .a
  | .rr_B => .rotR .rr .b
  | .rr_C => .rotR .rr .c
  | .rr_D => .rotR .rr .d
  | .rr_E => .rotR .rr .e
  | .rr_H => .rotR .rr .h
  | .rr_L => .rotR .rr .l
  | .rr_AtHL => .rotHl .rr
  | .rr_A => .rotR .rr .a
  | .sla_B => .rotR .sla .b
  | .sla_C => .rotR .sla .c
  | .sla_D => .rotR .sla .d
  | .sla_E => .rotR .sla .e
  | .sla_H => .rotR .sla .h
  | .sla_L => .rotR .sla .l
  | .sla_AtHL => .rotHl .sla
  | .sla_A => .rotR .sla .a
  | .sra_B => .rotR .sra .b
  | .sra_C => .rotR .sra .c
  | .sra_D => .rotR .sra .d
  | .sra_E => .rotR .sra .e
  | .sra_H => .rotR .sra .h
  | .sra_L => .rotR .sra .l
  | .sra_AtHL => .rotHl .sra
  | .sra_A => .rotR .sra .a
  | .swap_B => .rotR .swap .b
  | .swap_C => .rotR .swap .c
  | .swap_D => .rotR .swap .d
  | .swap_E => .rotR .swap .e
  | .swap_H => .rotR .swap .h
  | .swap_L => .rotR .swap .l
  | .swap_AtHL => .rotHl .swap
  | .swap_A => .rotR .swap .a
  | .srl_B => .rotR .srl .b
  | .srl_C => .rotR .srl .c
  | .srl_D => .rotR .srl .d
  | .srl_E => .rotR .srl .e
  | .srl_H => .rotR .srl .h
  | .srl_L => .rotR .srl .l
  | .srl_AtHL => .rotHl .srl
  | .srl_A => .rotR .srl .a
  | .bit_0_B => .bitR 0 .b
  | .bit_0_C => .bitR 0 .c
  | .bit_0_D => .bitR 0 .d
  | .bit_0_E => .bitR 0 .e
  | .bit_0_H => .bitR 0 .h
  | .bit_0_L => .bitR 0 .l
  | .bit_0_AtHL => .bitHl 0
  | .bit_0_A => .bitR 0 .a
  | .bit_1_B => .bitR 1 .b
  | .bit_1_C => .bitR 1 .c
  | .bit_1_D => .bitR 1 .d
  | .bit_1_E => .bitR 1 .e
  | .bit_1_H => .bitR 1 .h
  | .bit_1_L => .bitR 1 .l
  | .bit_1_AtHL => .bitHl 1
  | .bit_1_A => .bitR 1 .a
  | .bit_2_B => .bitR 2 .b
  | .bit_2_C => .bitR 2 .c
  | .bit_2_D => .bitR 2 .d
  | .bit_2_E => .bitR 2 .e
  | .bit_2_H => .bitR 2 .h
  | .bit_2_L => .bitR 2 .l
  | .bit_2_AtHL => .bitHl 2
  | .bit_2_A => .bitR 2 .a
  | .bit_3_B => .bitR 3 .b
  | .bit_3_C => .bitR 3 .c
  | .bit_3_D => .bitR 3 .d
  | .bit_3_E => .bitR 3 .e
  | .bit_3_H => .bitR 3 .h
  | .bit_3_L => .bitR 3 .l
  | .bit_3_AtHL => .bitHl 3
  | .bit_3_A => .bitR 3 .a
  | .bit_4_B => .bitR 4 .b
  | .bit_4_C => .bitR 4 .c
  | .bit_4_D => .bitR 4 .d
  | .bit_4_E => .bitR 4 .e
  | .bit_4_H => .bitR 4 .h
  | .bit_4_L => .bitR 4 .l
  | .bit_4_AtHL => .bitHl 4
  | .bit_4_A => .bitR 4 .a
  | .bit_5_B => .bitR 5 .b
  | .bit_5_C => .bitR 5 .c
  | .bit_5_D => .bitR 5 .d
  | .bit_5_E => .bitR 5 .e
  | .bit_5_H => .bitR 5 .h
  | .bit_5_L => .bitR 5 .l
  | .bit_5_AtHL => .bitHl 5
  | .bit_5_A => .bitR 5 .a
  | .bit_6_B => .bitR 6 .b
  | .bit_6_C => .bitR 6 .c
  | .bit_6_D => .bitR 6 .d
  | .bit_6_E => .bitR 6 .e
  | .bit_6_H => .bitR 6 .h
  | .bit_6_L => .bitR 6 .l
  | .bit_6_AtHL => .bitHl 6
  | .bit_6_A => .bitR 6 .a
  | .bit_7_B => .bitR 7 .b
  | .bit_7_C => .bitR 7 .c
  | .bit_7_D => .bitR 7 .d
  | .bit_7_E => .bitR 7 .e
  | .bit_7_H => .bitR 7 .h
  | .bit_7_L => .bitR 7 .l
  | .bit_7_AtHL => .bitHl 7
  | .bit_7_A => .bitR 7 .a
  | .res_0_B => .resR 0 .b
  | .res_0_C => .resR 0 .c
  | .res_0_D => .resR 0 .d
  | .res_0_E => .resR 0 .e
  | .res_0_H => .resR 0 .h
  | .res_0_L => .resR 0 .l
  | .res_0_AtHL => .resHl 0
  | .res_0_A => .resR 0 .a
  | .res_1_B => .resR 1 .b
  | .res_1_C => .resR 1 .c
  | .res_1_D => .resR 1 .d
  | .res_1_E => .resR 1 .e
  | .res_1_H => .resR 1 .h
  | .res_1_L => .resR 1 .l
  | .res_1_AtHL => .resHl 1
  | .res_1_A => .resR 1 .a
  | .res_2_B => .resR 2 .b
  | .res_2_C => .resR 2 .c
  | .res_2_D => .resR 2 .d
  | .res_2_E => .resR 2 .e
  | .res_2_H => .resR 2 .h
  | .res_2_L => .resR 2 .l
  | .res_2_AtHL => .resHl 2
  | .res_2_A => .resR 2 .a
  | .res_3_B => .resR 3 .b
  | .res_3_C => .resR 3 .c
  | .res_3_D => .resR 3 .d
  | .res_3_E => .resR 3 .e
  | .res_3_H => .resR 3 .h
  | .res_3_L => .resR 3 .l
  | .res_3_AtHL => .resHl 3
  | .res_3_A => .resR 3 .a
  | .res_4_B => .resR 4 .b
  | .res_4_C => .resR 4 .c
  | .res_4_D => .resR 4 .d
  | .res_4_E => .resR 4 .e
  | .res_4_H => .resR 4 .h
  | .res_4_L => .resR 4 .l
  | .res_4_AtHL => .resHl 4
  | .res_4_A => .resR 4 .a
  | .res_5_B => .resR 5 .b
  | .res_5_C => .resR 5 .c
  | .res_5_D => .resR 5 .d
  | .res_5_E => .resR 5 .e
  | .res_5_H => .resR 5 .h
  | .res_5_L => .resR 5 .l
  | .res_5_AtHL => .resHl 5
  | .res_5_A => .resR 5 .a
  | .res_6_B => .resR 6 .b
  | .res_6_C => .resR 6 .c
  | .res_6_D => .resR 6 .d
  | .res_6_E => .resR 6 .e
  | .res_6_H => .resR 6 .h
  | .res_6_L => .resR 6 .l
  | .res_6_AtHL => .resHl 6
  | .res_6_A => .resR 6 .a
  | .res_7_B => .resR 7 .b
  | .res_7_C => .resR 7 .c
  | .res_7_D => .resR 7 .d
  | .res_7_E => .resR 7 .e
  | .res_7_H => .resR 7 .h
  | .res_7_L => .resR 7 .l
  | .res_7_AtHL => .resHl 7
  | .res_7_A => .resR 7 .a
  | .set_0_B => .setR 0 .b
  | .set_0_C => .setR 0 .c
  | .set_0_D => .setR 0 .d
  | .set_0_E => .setR 0 .e
  | .set_0_H => .setR 0 .h
  | .set_0_L => .setR 0 .l
  | .set_0_AtHL => .setHl 0
  | .set_0_A => .setR 0 .a
  | .set_1_B => .setR 1 .b
  | .set_1_C => .setR 1 .c
  | .set_1_D => .setR 1 .d
  | .set_1_E => .setR 1 .e
  | .set_1_H => .setR 1 .h
  | .set_1_L => .setR 1 .l
  | .set_1_AtHL => .setHl 1
  | .set_1_A => .setR 1 .a
  | .set_2_B => .setR 2 .b
  | .set_2_C => .setR 2 .c
  | .set_2_D => .setR 2 .d
  | .set_2_E => .setR 2 .e
  | .set_2_H => .setR 2 .h
  | .set_2_L => .setR 2 .l
  | .set_2_AtHL => .setHl 2
  | .set_2_A => .setR 2 .a
  | .set_3_B => .setR 3 .b
  | .set_3_C => .setR 3 .c
  | .set_3_D => .setR 3 .d
  | .set_3_E => .setR 3 .e
  | .set_3_H => .setR 3 .h
  | .set_3_L => .setR 3 .l
  | .set_3_AtHL => .setHl 3
  | .set_3_A => .setR 3 .a
  | .set_4_B => .setR 4 .b
  | .set_4_C => .setR 4 .c
  | .set_4_D => .setR 4 .d
  | .set_4_E => .setR 4 .e
  | .set_4_H => .setR 4 .h
  | .set_4_L => .setR 4 .l
  | .set_4_AtHL => .setHl 4
  | .set_4_A => .setR 4 .a
  | .set_5_B => .setR 5 .b
  | .set_5_C => .setR 5 .c
  | .set_5_D => .setR 5 .d
  | .set_5_E => .setR 5 .e
  | .set_5_H => .setR 5 .h
  | .set_5_L => .setR 5 .l
  | .set_5_AtHL => .setHl 5
  | .set_5_A => .setR 5 .a
  | .set_6_B => .setR 6 .b
  | .set_6_C => .setR 6 .c
  | .set_6_D => .setR 6 .d
  | .set_6_E => .setR 6 .e
  | .set_6_H => .setR 6 .h
  | .set_6_L => .setR 6 .l
  | .set_6_AtHL => .setHl 6
  | .set_6_A => .setR 6 .a
  | .set_7_B => .setR 7 .b
  | .set_7_C => .setR 7 .c
  | .set_7_D => .setR 7 .d
  | .set_7_E => .setR 7 .e
  | .set_7_H => .setR 7 .h
  | .set_7_L => .setR 7 .l
  | .set_7_AtHL => .setHl 7
  | .set_7_A => .setR 7 .a
  | .unsupportedD3 => .unsupported 0xD3
  | .unsupportedDB => .unsupported 0xDB
  | .unsupportedDD => .unsupported 0xDD
  | .unsupportedE3 => .unsupported 0xE3
  | .unsupportedE4 => .unsupported 0xE4
  | .unsupportedEB => .unsupported 0xEB
  | .unsupportedEC => .unsupported 0xEC
  | .unsupportedED => .unsupported 0xED
  | .unsupportedF4 => .unsupported 0xF4
  | .unsupportedFC => .unsupported 0xFC
  | .unsupportedFD => .unsupported 0xFD

/-- How many bytes a form occupies (the format of each rule: F1, F2, F3 or FCB of R108). -/
def Form.length : Form → Nat
  | .ldRR _ _ | .ldRHl _ | .ldHlR _ | .ldABc | .ldADe | .ldBcA | .ldDeA | .ldAC | .ldCA
  | .ldHliA | .ldHldA | .ldAHli | .ldAHld | .ldSpHl | .push _ | .pop _ | .aluR _ _ | .aluHl _
  | .incR _ | .incHl | .decR _ | .decHl | .daa | .cpl | .scf | .ccf
  | .addHl _ | .incRr _ | .decRr _ | .rlca | .rrca | .rla | .rra
  | .jpHl | .ret | .retCc _ | .rst _ | .reti | .nop | .halt | .di | .ei | .unsupported _ => 1
  | .ldRN _ _ | .ldHlN _ | .ldhAN _ | .ldhNA _ | .ldHlSpE _ | .aluN _ _ | .addSpE _
  | .jr _ | .jrCc _ _ | .stop _ => 2
  | .rotR _ _ | .rotHl _ | .bitR _ _ | .bitHl _ | .resR _ _ | .resHl _ | .setR _ _ | .setHl _ => 2
  | .ldANn _ | .ldNnA _ | .ldRrNn _ _ | .ldNnSp _ | .jp _ | .jpCc _ _ | .call _ | .callCc _ _ => 3

/-- How many bytes an instruction occupies. -/
def Instr.length (i : Instr) : Nat := i.form.length

end Sys2Proof
end

