-- ==== Sys2Proof/Config.lean ====
section
/-! DEFINITION. The nine configuration parameters of R9, with the document's defaults. They are fixed
for a run: `State` carries one `Config` and no transition changes it (assumption 2). The spec leaves
no value open, so there is no free value here. -/

namespace Sys2Proof

/-- `ENTRY_PC` (R501): the reset value of PC. -/
inductive EntryPc where
  /-- 0x0100, the default. -/
  | cartridge
  /-- 0x0000, for an image with its own start-up code. -/
  | zero
  deriving DecidableEq, Repr

/-- `ROT_A_Z` (R260): what the four accumulator rotates do to Z. -/
inductive RotAZ where
  /-- Z is left as it was, the default. -/
  | preserve
  /-- Z becomes 0. -/
  | clear
  deriving DecidableEq, Repr

/-- `IME_TIMING` (R412): when DI and RETI act. -/
inductive ImeTiming where
  /-- Through the schedule only (R411), the default. -/
  | doc
  /-- At once (R412). -/
  | hw
  deriving DecidableEq, Repr

/-- `SPRITE_Y_OFFSET` (R451): what is added to LY in the sprite comparison. -/
inductive SpriteYOffset where
  /-- 0, the default. -/
  | zero
  /-- 16. -/
  | sixteen
  deriving DecidableEq, Repr

/-- The parameters of R9. -/
structure Config where
  entryPc       : EntryPc
  rotAZ         : RotAZ
  imeTiming     : ImeTiming
  irqDispatch   : Bool
  spriteYOffset : SpriteYOffset
  composeObjWin : Bool
  vblankIrq     : Bool
  lineBudget    : Nat
  bootImage     : Option (List Byte)
  deriving DecidableEq, Repr

/-- The default of every parameter (R9): the document's behaviour. -/
def Config.default : Config where
  entryPc       := .cartridge
  rotAZ         := .preserve
  imeTiming     := .doc
  irqDispatch   := false
  spriteYOffset := .zero
  composeObjWin := false
  vblankIrq     := false
  lineBudget    := 456
  bootImage     := none

end Sys2Proof
end

