-- ==== Sys2Proof/WellFormed.lean ====
section
/-! DEFINITION. What is well formed. An instruction's operands are whole bytes and words, and each may
take every value (R109, R114), so every term of `Instr` is an instruction: there is nothing to refuse.
The checks that can fail are on the host's inputs: the boot image (R504) and the cartridge image (R61). -/

namespace Sys2Proof

/-- Every term of `Instr` is well formed: no operand value is reserved (R114, R115). -/
def Instr.wellFormed (_i : Instr) : Bool := true

/-- The legal parameter values (R9): a boot image has at most 256 bytes (R504). -/
def Config.wellFormed (g : Config) : Bool :=
  match g.bootImage with
  | none => true
  | some bytes => decide (bytes.length ≤ 256)

/-- A cartridge image the block accepts: at most 32768 bytes (R61). -/
def imageWellFormed (image : List Byte) : Bool := decide (image.length ≤ 32768)

end Sys2Proof
end

