-- ==== Sys2Proof/Decode.lean ====
section
/-! DEFINITION. The decoder, written from the opcode maps R111 and R112, and the encoder, written from
the encoding formula that each instruction rule gives. The decoder is total on any list of bytes; it
rejects only a list that ends before the instruction does, and says so by name. An unassigned byte is no
rejection: R113 gives it a meaning (it raises UnsupportedOpcode), so it decodes to its own constructor. -/

namespace Sys2Proof

open Sys2Proof.Machine

/-- Why a list of bytes holds no whole instruction. Neither arises on the machine, whose fetch never
runs out of bytes (R74). -/
inductive DecodeError where
  /-- The list is empty. -/
  | noBytes
  /-- The list ends before the last byte of the instruction that this opcode byte begins. -/
  | truncated (op : Byte)
  deriving DecidableEq, Repr

/-- What the decoder answers: an instruction and the bytes after it, or a named rejection. -/
inductive Decoded where
  | ok (i : Instr) (rest : List Byte)
  | rejected (e : DecodeError)
  deriving DecidableEq, Repr

/-- Row 0x of the CB map (R112). -/
def cbRow0 : List Instr :=
  [.rlc_B, .rlc_C, .rlc_D, .rlc_E, .rlc_H, .rlc_L, .rlc_AtHL, .rlc_A,
   .rrc_B, .rrc_C, .rrc_D, .rrc_E, .rrc_H, .rrc_L, .rrc_AtHL, .rrc_A]

/-- Row 1x of the CB map (R112). -/
def cbRow1 : List Instr :=
  [.rl_B, .rl_C, .rl_D, .rl_E, .rl_H, .rl_L, .rl_AtHL, .rl_A,
   .rr_B, .rr_C, .rr_D, .rr_E, .rr_H, .rr_L, .rr_AtHL, .rr_A]

/-- Row 2x of the CB map (R112). -/
def cbRow2 : List Instr :=
  [.sla_B, .sla_C, .sla_D, .sla_E, .sla_H, .sla_L, .sla_AtHL, .sla_A,
   .sra_B, .sra_C, .sra_D, .sra_E, .sra_H, .sra_L, .sra_AtHL, .sra_A]

/-- Row 3x of the CB map (R112). -/
def cbRow3 : List Instr :=
  [.swap_B, .swap_C, .swap_D, .swap_E, .swap_H, .swap_L, .swap_AtHL, .swap_A,
   .srl_B, .srl_C, .srl_D, .srl_E, .srl_H, .srl_L, .srl_AtHL, .srl_A]

/-- Row 4x of the CB map (R112). -/
def cbRow4 : List Instr :=
  [.bit_0_B, .bit_0_C, .bit_0_D, .bit_0_E, .bit_0_H, .bit_0_L, .bit_0_AtHL, .bit_0_A,
   .bit_1_B, .bit_1_C, .bit_1_D, .bit_1_E, .bit_1_H, .bit_1_L, .bit_1_AtHL, .bit_1_A]

/-- Row 5x of the CB map (R112). -/
def cbRow5 : List Instr :=
  [.bit_2_B, .bit_2_C, .bit_2_D, .bit_2_E, .bit_2_H, .bit_2_L, .bit_2_AtHL, .bit_2_A,
   .bit_3_B, .bit_3_C, .bit_3_D, .bit_3_E, .bit_3_H, .bit_3_L, .bit_3_AtHL, .bit_3_A]

/-- Row 6x of the CB map (R112). -/
def cbRow6 : List Instr :=
  [.bit_4_B, .bit_4_C, .bit_4_D, .bit_4_E, .bit_4_H, .bit_4_L, .bit_4_AtHL, .bit_4_A,
   .bit_5_B, .bit_5_C, .bit_5_D, .bit_5_E, .bit_5_H, .bit_5_L, .bit_5_AtHL, .bit_5_A]

/-- Row 7x of the CB map (R112). -/
def cbRow7 : List Instr :=
  [.bit_6_B, .bit_6_C, .bit_6_D, .bit_6_E, .bit_6_H, .bit_6_L, .bit_6_AtHL, .bit_6_A,
   .bit_7_B, .bit_7_C, .bit_7_D, .bit_7_E, .bit_7_H, .bit_7_L, .bit_7_AtHL, .bit_7_A]

/-- Row 8x of the CB map (R112). -/
def cbRow8 : List Instr :=
  [.res_0_B, .res_0_C, .res_0_D, .res_0_E, .res_0_H, .res_0_L, .res_0_AtHL, .res_0_A,
   .res_1_B, .res_1_C, .res_1_D, .res_1_E, .res_1_H, .res_1_L, .res_1_AtHL, .res_1_A]

/-- Row 9x of the CB map (R112). -/
def cbRow9 : List Instr :=
  [.res_2_B, .res_2_C, .res_2_D, .res_2_E, .res_2_H, .res_2_L, .res_2_AtHL, .res_2_A,
   .res_3_B, .res_3_C, .res_3_D, .res_3_E, .res_3_H, .res_3_L, .res_3_AtHL, .res_3_A]

/-- Row Ax of the CB map (R112). -/
def cbRowA : List Instr :=
  [.res_4_B, .res_4_C, .res_4_D, .res_4_E, .res_4_H, .res_4_L, .res_4_AtHL, .res_4_A,
   .res_5_B, .res_5_C, .res_5_D, .res_5_E, .res_5_H, .res_5_L, .res_5_AtHL, .res_5_A]

/-- Row Bx of the CB map (R112). -/
def cbRowB : List Instr :=
  [.res_6_B, .res_6_C, .res_6_D, .res_6_E, .res_6_H, .res_6_L, .res_6_AtHL, .res_6_A,
   .res_7_B, .res_7_C, .res_7_D, .res_7_E, .res_7_H, .res_7_L, .res_7_AtHL, .res_7_A]

/-- Row Cx of the CB map (R112). -/
def cbRowC : List Instr :=
  [.set_0_B, .set_0_C, .set_0_D, .set_0_E, .set_0_H, .set_0_L, .set_0_AtHL, .set_0_A,
   .set_1_B, .set_1_C, .set_1_D, .set_1_E, .set_1_H, .set_1_L, .set_1_AtHL, .set_1_A]

/-- Row Dx of the CB map (R112). -/
def cbRowD : List Instr :=
  [.set_2_B, .set_2_C, .set_2_D, .set_2_E, .set_2_H, .set_2_L, .set_2_AtHL, .set_2_A,
   .set_3_B, .set_3_C, .set_3_D, .set_3_E, .set_3_H, .set_3_L, .set_3_AtHL, .set_3_A]

/-- Row Ex of the CB map (R112). -/
def cbRowE : List Instr :=
  [.set_4_B, .set_4_C, .set_4_D, .set_4_E, .set_4_H, .set_4_L, .set_4_AtHL, .set_4_A,
   .set_5_B, .set_5_C, .set_5_D, .set_5_E, .set_5_H, .set_5_L, .set_5_AtHL, .set_5_A]

/-- Row Fx of the CB map (R112). -/
def cbRowF : List Instr :=
  [.set_6_B, .set_6_C, .set_6_D, .set_6_E, .set_6_H, .set_6_L, .set_6_AtHL, .set_6_A,
   .set_7_B, .set_7_C, .set_7_D, .set_7_E, .set_7_H, .set_7_L, .set_7_AtHL, .set_7_A]

/-- The CB map (R112). -/
def cbMap : List (List Instr) :=
  [cbRow0, cbRow1, cbRow2, cbRow3, cbRow4, cbRow5, cbRow6, cbRow7] ++
  [cbRow8, cbRow9, cbRowA, cbRowB, cbRowC, cbRowD, cbRowE, cbRowF]

/-- The cell of a map at row `op / 16`, column `op % 16`. Every map here has 16 rows of 16 cells. -/
def mapCell (m : List (List Instr)) (op : Byte) : Instr :=
  (m.getD (op.toNat / 16) []).getD (op.toNat % 16) .nop

/-- The instruction of the CB table for the second byte (R100, R345). -/
def cbInstr (op2 : Byte) : Instr := mapCell cbMap op2


/-- Row 0x of the primary map (R111). -/
def primaryRow0 (n : Byte) (nn : Word) : List Instr :=
  [.nop, .ld_BC_nn nn, .ld_AtBC_A, .inc_BC,
   .inc_B, .dec_B, .ld_B_n n, .rlca,
   .ld_AtNN_SP nn, .add_HL_BC, .ld_A_AtBC, .dec_BC,
   .inc_C, .dec_C, .ld_C_n n, .rrca]

/-- Row 1x of the primary map (R111). -/
def primaryRow1 (n : Byte) (nn : Word) : List Instr :=
  [.stop n, .ld_DE_nn nn, .ld_AtDE_A, .inc_DE,
   .inc_D, .dec_D, .ld_D_n n, .rla,
   .jr_e n, .add_HL_DE, .ld_A_AtDE, .dec_DE,
   .inc_E, .dec_E, .ld_E_n n, .rra]

/-- Row 2x of the primary map (R111). -/
def primaryRow2 (n : Byte) (nn : Word) : List Instr :=
  [.jr_NZ_e n, .ld_HL_nn nn, .ld_AtHLI_A, .inc_HL,
   .inc_H, .dec_H, .ld_H_n n, .daa,
   .jr_Z_e n, .add_HL_HL, .ld_A_AtHLI, .dec_HL,
   .inc_L, .dec_L, .ld_L_n n, .cpl]

/-- Row 3x of the primary map (R111). -/
def primaryRow3 (n : Byte) (nn : Word) : List Instr :=
  [.jr_NC_e n, .ld_SP_nn nn, .ld_AtHLD_A, .inc_SP,
   .inc_AtHL, .dec_AtHL, .ld_AtHL_n n, .scf,
   .jr_C_e n, .add_HL_SP, .ld_A_AtHLD, .dec_SP,
   .inc_A, .dec_A, .ld_A_n n, .ccf]

/-- Row 4x of the primary map (R111). -/
def primaryRow4 (_n : Byte) (_nn : Word) : List Instr :=
  [.ld_B_B, .ld_B_C, .ld_B_D, .ld_B_E,
   .ld_B_H, .ld_B_L, .ld_B_AtHL, .ld_B_A,
   .ld_C_B, .ld_C_C, .ld_C_D, .ld_C_E,
   .ld_C_H, .ld_C_L, .ld_C_AtHL, .ld_C_A]

/-- Row 5x of the primary map (R111). -/
def primaryRow5 (_n : Byte) (_nn : Word) : List Instr :=
  [.ld_D_B, .ld_D_C, .ld_D_D, .ld_D_E,
   .ld_D_H, .ld_D_L, .ld_D_AtHL, .ld_D_A,
   .ld_E_B, .ld_E_C, .ld_E_D, .ld_E_E,
   .ld_E_H, .ld_E_L, .ld_E_AtHL, .ld_E_A]

/-- Row 6x of the primary map (R111). -/
def primaryRow6 (_n : Byte) (_nn : Word) : List Instr :=
  [.ld_H_B, .ld_H_C, .ld_H_D, .ld_H_E,
   .ld_H_H, .ld_H_L, .ld_H_AtHL, .ld_H_A,
   .ld_L_B, .ld_L_C, .ld_L_D, .ld_L_E,
   .ld_L_H, .ld_L_L, .ld_L_AtHL, .ld_L_A]

/-- Row 7x of the primary map (R111). -/
def primaryRow7 (_n : Byte) (_nn : Word) : List Instr :=
  [.ld_AtHL_B, .ld_AtHL_C, .ld_AtHL_D, .ld_AtHL_E,
   .ld_AtHL_H, .ld_AtHL_L, .halt, .ld_AtHL_A,
   .ld_A_B, .ld_A_C, .ld_A_D, .ld_A_E,
   .ld_A_H, .ld_A_L, .ld_A_AtHL, .ld_A_A]

/-- Row 8x of the primary map (R111). -/
def primaryRow8 (_n : Byte) (_nn : Word) : List Instr :=
  [.add_A_B, .add_A_C, .add_A_D, .add_A_E,
   .add_A_H, .add_A_L, .add_A_AtHL, .add_A_A,
   .adc_A_B, .adc_A_C, .adc_A_D, .adc_A_E,
   .adc_A_H, .adc_A_L, .adc_A_AtHL, .adc_A_A]

/-- Row 9x of the primary map (R111). -/
def primaryRow9 (_n : Byte) (_nn : Word) : List Instr :=
  [.sub_B, .sub_C, .sub_D, .sub_E,
   .sub_H, .sub_L, .sub_AtHL, .sub_A,
   .sbc_A_B, .sbc_A_C, .sbc_A_D, .sbc_A_E,
   .sbc_A_H, .sbc_A_L, .sbc_A_AtHL, .sbc_A_A]

/-- Row Ax of the primary map (R111). -/
def primaryRowA (_n : Byte) (_nn : Word) : List Instr :=
  [.and_B, .and_C, .and_D, .and_E,
   .and_H, .and_L, .and_AtHL, .and_A,
   .xor_B, .xor_C, .xor_D, .xor_E,
   .xor_H, .xor_L, .xor_AtHL, .xor_A]

/-- Row Bx of the primary map (R111). -/
def primaryRowB (_n : Byte) (_nn : Word) : List Instr :=
  [.or_B, .or_C, .or_D, .or_E,
   .or_H, .or_L, .or_AtHL, .or_A,
   .cp_B, .cp_C, .cp_D, .cp_E,
   .cp_H, .cp_L, .cp_AtHL, .cp_A]

/-- Row Cx of the primary map (R111). -/
def primaryRowC (n : Byte) (nn : Word) : List Instr :=
  [.ret_NZ, .pop_BC, .jp_NZ_nn nn, .jp_nn nn,
   .call_NZ_nn nn, .push_BC, .add_A_n n, .rst_00,
   .ret_Z, .ret, .jp_Z_nn nn, cbInstr n,
   .call_Z_nn nn, .call_nn nn, .adc_A_n n, .rst_08]

/-- Row Dx of the primary map (R111). -/
def primaryRowD (n : Byte) (nn : Word) : List Instr :=
  [.ret_NC, .pop_DE, .jp_NC_nn nn, .unsupportedD3,
   .call_NC_nn nn, .push_DE, .sub_n n, .rst_10,
   .ret_C, .reti, .jp_C_nn nn, .unsupportedDB,
   .call_C_nn nn, .unsupportedDD, .sbc_A_n n, .rst_18]

/-- Row Ex of the primary map (R111). -/
def primaryRowE (n : Byte) (nn : Word) : List Instr :=
  [.ldh_AtN_A n, .pop_HL, .ld_AtC_A, .unsupportedE3,
   .unsupportedE4, .push_HL, .and_n n, .rst_20,
   .add_SP_e n, .jp_HL, .ld_AtNN_A nn, .unsupportedEB,
   .unsupportedEC, .unsupportedED, .xor_n n, .rst_28]

/-- Row Fx of the primary map (R111). -/
def primaryRowF (n : Byte) (nn : Word) : List Instr :=
  [.ldh_A_AtN n, .pop_AF, .ld_A_AtC, .di,
   .unsupportedF4, .push_AF, .or_n n, .rst_30,
   .ld_HL_SPe n, .ld_SP_HL, .ld_A_AtNN nn, .ei,
   .unsupportedFC, .unsupportedFD, .cp_n n, .rst_38]

/-- The primary map (R111), with `n` the byte after the opcode and `nn` the word after it. Its cell 0xCB
is the prefix, which selects the CB table for the next byte (R115). -/
def primaryMap (n : Byte) (nn : Word) : List (List Instr) :=
  [primaryRow0 n nn, primaryRow1 n nn, primaryRow2 n nn, primaryRow3 n nn] ++
  [primaryRow4 n nn, primaryRow5 n nn, primaryRow6 n nn, primaryRow7 n nn] ++
  [primaryRow8 n nn, primaryRow9 n nn, primaryRowA n nn, primaryRowB n nn] ++
  [primaryRowC n nn, primaryRowD n nn, primaryRowE n nn, primaryRowF n nn]

/-- The instruction whose bytes are `op`, `b1`, `b2` (as many of them as it has): R100, R115. An
immediate word is `b2 ++ b1`, its low byte first (R109). -/
def decodeBytes (op b1 b2 : Byte) : Instr := mapCell (primaryMap b1 (cat b2 b1)) op

/-- The opcode bytes of two-byte instructions (R101). -/
def twoByteOpcodes : List Byte :=
  [0xCB] ++
  [0x06, 0x0E, 0x16, 0x1E, 0x26, 0x2E, 0x36, 0x3E, 0x10, 0x18, 0x20, 0x28, 0x30, 0x38] ++
  [0xC6, 0xCE, 0xD6, 0xDE, 0xE6, 0xEE, 0xF6, 0xFE, 0xE0, 0xF0, 0xE8, 0xF8]

/-- The opcode bytes of three-byte instructions (R101). -/
def threeByteOpcodes : List Byte :=
  [0x01, 0x11, 0x21, 0x31, 0x08, 0xC2, 0xC3, 0xCA, 0xD2, 0xDA] ++
  [0xC4, 0xCC, 0xD4, 0xDC, 0xCD, 0xEA, 0xFA]

/-- The length of the instruction that a first byte begins: the first byte alone fixes it (R101). -/
def opLength (op : Byte) : Nat :=
  if op ∈ twoByteOpcodes then 2 else if op ∈ threeByteOpcodes then 3 else 1

/-- The decoder. -/
def decode : List Byte → Decoded
  | [] => .rejected .noBytes
  | op :: rest =>
    match opLength op, rest with
    | 1, rest => .ok (decodeBytes op 0 0) rest
    | 2, b1 :: rest => .ok (decodeBytes op b1 0) rest
    | 3, b1 :: b2 :: rest => .ok (decodeBytes op b1 b2) rest
    | _, _ => .rejected (.truncated op)

/-- The byte with the value of an encoding formula. -/
def opByte (v : Nat) : Byte := BitVec.ofNat 8 v

/-- The bytes of a form, from the encoding line of its rule. -/
def Form.encode : Form → List Byte
  -- 40_load8.md
  | .ldRR r r2 => [opByte (0x40 + 8 * r.code + r2.code)]
  | .ldRN r n => [opByte (0x06 + 8 * r.code), n]
  | .ldRHl r => [opByte (0x46 + 8 * r.code)]
  | .ldHlR r => [opByte (0x70 + r.code)]
  | .ldHlN n => [0x36, n]
  | .ldABc => [0x0A]
  | .ldADe => [0x1A]
  | .ldBcA => [0x02]
  | .ldDeA => [0x12]
  | .ldANn nn => [0xFA, lo8 nn, hi8 nn]
  | .ldNnA nn => [0xEA, lo8 nn, hi8 nn]
  | .ldhAN n => [0xF0, n]
  | .ldhNA n => [0xE0, n]
  | .ldAC => [0xF2]
  | .ldCA => [0xE2]
  | .ldHliA => [0x22]
  | .ldHldA => [0x32]
  | .ldAHli => [0x2A]
  | .ldAHld => [0x3A]
  -- 41_load16.md
  | .ldRrNn p nn => [opByte (0x01 + 16 * p.code), lo8 nn, hi8 nn]
  | .ldNnSp nn => [0x08, lo8 nn, hi8 nn]
  | .ldSpHl => [0xF9]
  | .ldHlSpE e => [0xF8, e]
  | .push q => [opByte (0xC5 + 16 * q.code)]
  | .pop q => [opByte (0xC1 + 16 * q.code)]
  -- 42_alu8.md: 10 ooo sss, and 11 ooo 110 with an immediate
  | .aluR op r => [opByte (0x80 + 8 * op.code + r.code)]
  | .aluHl op => [opByte (0x86 + 8 * op.code)]
  | .aluN op n => [opByte (0xC6 + 8 * op.code), n]
  | .incR r => [opByte (0x04 + 8 * r.code)]
  | .incHl => [0x34]
  | .decR r => [opByte (0x05 + 8 * r.code)]
  | .decHl => [0x35]
  | .daa => [0x27]
  | .cpl => [0x2F]
  | .scf => [0x37]
  | .ccf => [0x3F]
  -- 43_alu16.md
  | .addHl p => [opByte (0x09 + 16 * p.code)]
  | .incRr p => [opByte (0x03 + 16 * p.code)]
  | .decRr p => [opByte (0x0B + 16 * p.code)]
  | .addSpE e => [0xE8, e]
  -- 44_bitops.md
  | .rlca => [0x07]
  | .rrca => [0x0F]
  | .rla => [0x17]
  | .rra => [0x1F]
  | .rotR op r => [0xCB, opByte (8 * op.code + r.code)]
  | .rotHl op => [0xCB, opByte (8 * op.code + 6)]
  | .bitR b r => [0xCB, opByte (0x40 + 8 * b.val + r.code)]
  | .bitHl b => [0xCB, opByte (0x46 + 8 * b.val)]
  | .resR b r => [0xCB, opByte (0x80 + 8 * b.val + r.code)]
  | .resHl b => [0xCB, opByte (0x86 + 8 * b.val)]
  | .setR b r => [0xCB, opByte (0xC0 + 8 * b.val + r.code)]
  | .setHl b => [0xCB, opByte (0xC6 + 8 * b.val)]
  -- 45_control.md
  | .jp nn => [0xC3, lo8 nn, hi8 nn]
  | .jpCc cc nn => [opByte (0xC2 + 8 * cc.code), lo8 nn, hi8 nn]
  | .jpHl => [0xE9]
  | .jr e => [0x18, e]
  | .jrCc cc e => [opByte (0x20 + 8 * cc.code), e]
  | .call nn => [0xCD, lo8 nn, hi8 nn]
  | .callCc cc nn => [opByte (0xC4 + 8 * cc.code), lo8 nn, hi8 nn]
  | .ret => [0xC9]
  | .retCc cc => [opByte (0xC0 + 8 * cc.code)]
  | .rst y => [opByte (0xC7 + 8 * y.val)]
  | .reti => [0xD9]
  -- 46_system.md
  | .nop => [0x00]
  | .halt => [0x76]
  | .stop x => [0x10, x]
  | .di => [0xF3]
  | .ei => [0xFB]
  | .unsupported op => [op]

/-- The encoder: the bytes of an instruction, in fetch order (R73). -/
def encode (i : Instr) : List Byte := i.form.encode

/-- The bytes of an instruction given as ONE number of `nbits` bits; the bits above `nbits` are 0, up to the
longest instruction, three bytes. The spec numbers opcode bytes alone (R108, the table's match values), so
how a whole instruction is laid out as a number is the model's choice (DESIGN CHOICE, assumption 8, safe):
- a number of exactly 16 bits whose bits 15..8 are 0xCB is a CB row as the table gives it, prefix first;
- any other number, of 8, 16 or 24 bits, has its first byte in bits 7..0, whatever the later bytes are. So
  the 24-bit 0x00CB01 is the bytes 01 CB 00, LD BC,0x00CB, although its top byte is 0 and its second 0xCB. -/
def tableBytes (nbits w : Nat) : List Byte :=
  let v := w % 2 ^ nbits
  if nbits = 16 ∧ v / 0x100 = 0xCB then [0xCB, BitVec.ofNat 8 v, 0]
  else [BitVec.ofNat 8 v, BitVec.ofNat 8 (v / 0x100), BitVec.ofNat 8 (v / 0x10000)]

/-- The instruction the decoder reads from an instruction's bits. -/
def decodeTableWord (nbits w : Nat) : Option Instr :=
  match decode (tableBytes nbits w) with
  | .ok i _ => some i
  | .rejected _ => none

end Sys2Proof
end

