-- ==== Sys2Proof/Machine/State.lean ====
section
/-! DEFINITION. The whole state of the block as plain data: the register file (R20 to R26), the one memory
array (R60), the hidden state (R46 to R51), what a step returns (R15), and the host loop's own counters
(R472). The I/O registers are bytes of the memory array (R29), so they have no field of their own. -/

namespace Sys2Proof.Machine

/-- The flag record F: four 1-bit fields, not a byte (R20, R21). -/
structure Flags where
  z : Bool
  n : Bool
  h : Bool
  c : Bool
  deriving DecidableEq, Repr

/-- The 65536-byte array (R60): the cells that do not hold 0x00, by rising address. An unlisted address
reads as 0x00, since construction fills the memory with zeros (R61). -/
abbrev Memory := List Host.Cell

/-- The canonical form of a memory: addresses strictly rising and below 65536, no listed 0x00. -/
def Memory.wf : Memory → Bool
  | [] => true
  | [(k, v)] => decide (k < 0x10000) && v != 0
  | (k, v) :: (k', v') :: m => decide (k < k') && v != 0 && Memory.wf ((k', v') :: m)

/-- The OAM DMA controller (R48). -/
inductive Dma where
  | inactive
  /-- A transfer in flight: the source base, the bytes copied (0..159), the cycles not yet worth a byte
  (0..3). -/
  | active (sourceBase : Word) (copied residue : Nat)
  deriving DecidableEq, Repr

/-- The error records (R400 to R403). -/
inductive ErrorRecord where
  /-- An unassigned byte was fetched as an opcode (R401); `pc` is the address it was fetched from. -/
  | unsupportedOpcode (opcode : Byte) (isPrefixed : Bool) (pc : Word)
  /-- An out-of-range sprite or tile-map index (R403). Nothing raises it: every index is in range. -/
  | invalidIndex (index : Nat) (pc : Word)
  /-- A cartridge image above 32768 bytes (R402). Construction fails with it, so no state holds it. -/
  | romTooLarge (length : Nat)
  deriving DecidableEq, Repr

/-- An entry of the sprite selection (R451). -/
structure Sprite where
  y          : Byte
  x          : Byte
  tileIndex  : Byte
  attributes : Byte
  deriving DecidableEq, Repr

/-- What `draw_scanline` returns (R450): the row of 160 shades and the sprite selection. -/
structure Scanline where
  row     : List (BitVec 2)
  sprites : List Sprite
  deriving DecidableEq, Repr

/-- Which of the four transitions of R470 the host loop (R472) makes next (assumption 1). -/
inductive Phase where
  | writeLy
  | cpu
  | tick
  | draw
  deriving DecidableEq, Repr

/-- The state of the block and of the host loop that drives it. -/
structure State where
  /-- The accumulator and the six other data registers (R20). -/
  a : Byte
  b : Byte
  c : Byte
  d : Byte
  e : Byte
  h : Byte
  l : Byte
  /-- The flag record (R21). -/
  f : Flags
  /-- The stack pointer (R25). -/
  sp : Word
  /-- The program counter (R26). -/
  pc : Word
  /-- The memory array, I/O registers and IE included (R29, R60). -/
  mem : Memory
  /-- The timer's internal counter (R46). -/
  div : Word
  /-- The pending-timer-reload flag (R47). -/
  overflow : Bool
  /-- The OAM DMA controller (R48). -/
  dma : Dma
  /-- The interrupt master enable (R49). -/
  ime : Bool
  /-- The value `ime` takes at the next update point (R49). -/
  scheduledIme : Bool
  /-- The halted/stopped flag (R50). -/
  halted : Bool
  /-- The error record, if one was raised (R51, R400). -/
  fault : Option ErrorRecord
  /-- The bytes emitted on the serial side-channel, oldest first (R51, R446). -/
  serialOut : List Byte
  /-- The step's local flag `wrote_schedule` (R411). -/
  wroteSchedule : Bool
  /-- The T-cycle count the last CPU step returned (R15); none before any step and after a fault. -/
  cycles : Option Nat
  /-- The host loop: what comes next, the line counter and the cycle budget (R472). -/
  phase : Phase
  line : Nat
  budget : Nat
  /-- What the last `draw_scanline` handed to the presentation layer (R472). -/
  scanline : Option Scanline
  /-- The parameters (R9), fixed for a run. -/
  cfg : Config
  deriving DecidableEq, Repr

/-- Why a step has no next state. -/
inductive Fault where
  /-- Raised by `step` alone, on a state whose `fault` is set: no agent has a transition any more
  (R400, R473). Safe: the block makes none either. -/
  | stopped (record : ErrorRecord)
  deriving DecidableEq, Repr

/-- Why a step is refused. -/
inductive Refusal where
  /-- The answer of an arm of `exec` that has no meaning yet. No arm answers it now. Safe. -/
  | notModelled (mnemonic : String)
  deriving DecidableEq, Repr

/-- The machine right after reset (R500 to R503): construction from the empty image (assumption 9), with every
parameter at its default. Every value is one that the spec gives, but for the model's own fields
`wroteSchedule`, `cycles`, `phase` and `scanline` (assumptions 1, 4, 6). -/
def State.reset : State where
  a := 0x00
  b := 0x00
  c := 0x00
  d := 0x00
  e := 0x00
  h := 0x00
  l := 0x00
  f := ⟨false, false, false, false⟩
  sp := 0xFFFE
  pc := 0x0100
  mem := []
  div := 0x0000
  overflow := false
  dma := .inactive
  ime := false
  scheduledIme := false
  halted := false
  fault := none
  serialOut := []
  wroteSchedule := false
  cycles := none
  phase := .writeLy
  line := 0
  budget := 0
  scanline := none
  cfg := Config.default

end Sys2Proof.Machine
end

