-- ==== Sys2Proof/Machine/Ops.lean ====
section
/-! DEFINITION. The named operations over memory, PC, SP and the interrupt state: raw and CPU accesses (R12,
R63 to R71), the stack (R14), the IME schedule (R411, R412), raising an error (R400, R401) and taking an
interrupt (R421). -/

namespace Sys2Proof.Machine

/-- The answer of a meaning, of a CPU step and of a transition. -/
abbrev Result := Host.Outcome State Fault Refusal

/-! ### Memory cells -/

/-- The byte at an address: the listed one, or 0x00 (R61). -/
def Memory.read : Memory → Nat → Byte
  | [], _ => 0x00
  | (k, v) :: m, j => if k = j then v else Memory.read m j

/-- Lists a cell before the first larger address. -/
def Memory.insertCell : Memory → Nat → Byte → Memory
  | [], k, v => [(k, v)]
  | (k', v') :: m, k, v => if k < k' then (k, v) :: (k', v') :: m else (k', v') :: Memory.insertCell m k v

/-- Sets the byte at an address. Writing 0x00 unlists the address, so equal memories are equal lists. -/
def Memory.write (m : Memory) (k : Nat) (v : Byte) : Memory :=
  let rest := m.filter (fun cell => cell.1 != k)
  if v = 0x00 then rest else Memory.insertCell rest k v

/-! ### Raw accesses: `mem[a]` of R12, with no side effect -/

/-- `mem[a]`. -/
def State.rawRead (s : State) (a : Word) : Byte := Memory.read s.mem a.toNat

/-- `mem[a] <- v`. -/
def State.rawWrite (s : State) (a : Word) (v : Byte) : State := { s with mem := Memory.write s.mem a.toNat v }

/-! ### CPU accesses -/

/-- `MemRead(a, 1)` (R63): no read has a side effect. -/
def State.memRead (s : State) (a : Word) : Byte := s.rawRead a

/-- Whether an address is in the work RAM that echoes upward, 0xC000..0xDDFF (R65). -/
def inEchoed (a : Word) : Bool := decide (0xC000 ≤ a.toNat ∧ a.toNat ≤ 0xDDFF)

/-- Whether an address is in the echo RAM, 0xE000..0xFDFF (R65). -/
def inEcho (a : Word) : Bool := decide (0xE000 ≤ a.toNat ∧ a.toNat ≤ 0xFDFF)

/-- `MemWrite(a, 1, v)` (R64), with the side effects of R65 to R69. -/
def State.memWrite (s : State) (a : Word) (v : Byte) : State :=
  if inEchoed a then (s.rawWrite a v).rawWrite (a + 0x2000) v
  else if inEcho a then (s.rawWrite a v).rawWrite (a - 0x2000) v
  else if a = 0xFF02 ∧ v = 0x81 then
    { s with serialOut := s.serialOut ++ [s.rawRead 0xFF01] }.rawWrite 0xFF02 0x00
  else if a = 0xFF04 then { s with div := 0x0000 }.rawWrite 0xFF04 0x00
  else if a = 0xFF44 then s
  else if a = 0xFF46 then { s with dma := .active (cat v 0x00) 0 0 }.rawWrite 0xFF46 v
  else s.rawWrite a v

/-! ### The stack (R14) -/

/-- `push16(v)`: the high byte first, at SP - 1, then the low byte at SP - 2. -/
def State.push16 (s : State) (v : Word) : State :=
  let s1 := { s with sp := s.sp - 1 }
  let s2 := s1.memWrite s1.sp (hi8 v)
  let s3 := { s2 with sp := s2.sp - 1 }
  s3.memWrite s3.sp (lo8 v)

/-- The word that `pop16()` returns: the low byte at SP, the high byte at SP + 1. -/
def State.popWord (s : State) : Word := cat (s.memRead (s.sp + 1)) (s.memRead s.sp)

/-- The state that `pop16()` leaves: SP is two higher. -/
def State.popped (s : State) : State := { s with sp := s.sp + 2 }

/-! ### The program counter and the cycle count -/

/-- `PC <- target` (R13, R26). -/
def State.setPc (s : State) (target : Word) : State := { s with pc := target }

/-- `jump_pc` (R26): PC, already past the operand, plus the signed byte. -/
def State.jumpRelative (s : State) (e : Byte) : State := s.setPc (s.pc + sext16 e)

/-- `cycles <- n` (R15). -/
def State.returns (s : State) (n : Nat) : State := { s with cycles := some n }

/-! ### The interrupt master enable (R410 to R412) -/

/-- `schedule_ime(v)` (R411). -/
def State.scheduleIme (s : State) (v : Bool) : State := { s with scheduledIme := v, wroteSchedule := true }

/-- `schedule_ime(v)` for DI and RETI, which under `IME_TIMING = hw` act at once as well (R412). -/
def State.scheduleImeTimed (s : State) (v : Bool) : State :=
  match s.cfg.imeTiming with
  | .doc => s.scheduleIme v
  | .hw => { s.scheduleIme v with ime := v }

/-- `end_step()` (R411): the one point where the scheduled value reaches `ime`. -/
def State.endStep (s : State) : State :=
  if s.wroteSchedule then s else { s with ime := s.scheduledIme }

/-- `pending()` (R413): `mem[0xFFFF] & mem[0xFF0F] & 0x1F`. -/
def State.pending (s : State) : Byte := s.rawRead 0xFFFF &&& s.rawRead 0xFF0F &&& 0x1F

/-! ### Taking an exception -/

/-- The code of an error record (R404). -/
def ErrorRecord.code : ErrorRecord → Nat
  | .unsupportedOpcode _ _ _ => 1
  | .invalidIndex _ _ => 2
  | .romTooLarge _ => 3

/-- `raise` of an error (R15, R400): the record is set, and the step returns no cycle count. Nothing else
changes (R401). -/
def State.raise (s : State) (r : ErrorRecord) : State := { s with fault := some r, cycles := none }

/-- The lowest-numbered pending bit (R416, R421), for a `p` with a bit of 4..0 set. -/
def lowestPending (p : Byte) : Nat :=
  if p.getLsbD 0 then 0
  else if p.getLsbD 1 then 1
  else if p.getLsbD 2 then 2
  else if p.getLsbD 3 then 3
  else 4

/-- `dispatch()` (R421, R422): acknowledge the request, disable interrupts, push PC, go to the vector. The
return from it is RETI (R311, R423). -/
def State.takeInterrupt (s : State) : State :=
  let k := lowestPending s.pending
  let s1 := s.rawWrite 0xFF0F (s.rawRead 0xFF0F &&& ~~~(0x01#8 <<< k))
  let s2 := { s1 with ime := false, scheduledIme := false, wroteSchedule := true }
  (s2.push16 s2.pc).setPc (0x0040 + BitVec.ofNat 16 (8 * k)) |>.returns 20

end Sys2Proof.Machine
end

