-- ==== Sys2Proof/Machine/Flags.lean ====
section
/-! DEFINITION. Every flag computation: the byte form of F (R21, R23), the 8-bit ALU (R200, R201, R214 to
R222, R226, R228, R230), the 16-bit additions (R240, R243), the rotates and shifts (R260 to R280) and the
single-bit operations (R281 to R286). Sums and comparisons are computed in Nat and narrowed at the end. -/

namespace Sys2Proof.Machine

/-- `F_byte = (Z << 7) | (N << 6) | (H << 5) | (C << 4)` (R21). -/
def Flags.toByte (f : Flags) : Byte :=
  (if f.z then 0x80 else 0) ||| (if f.n then 0x40 else 0) ||| (if f.h then 0x20 else 0)
    ||| (if f.c then 0x10 else 0)

/-- The flags a byte sets: bits 7, 6, 5 and 4; bits 3..0 are discarded (R23). -/
def Flags.ofByte (v : Byte) : Flags := ⟨v.getLsbD 7, v.getLsbD 6, v.getLsbD 5, v.getLsbD 4⟩

/-! ### 8-bit addition and subtraction -/

/-- The result of `add8(a, b, cin)` (R200). -/
def add8 (a b : Byte) (cin : Bool) : Byte := BitVec.ofNat 8 (a.toNat + b.toNat + cin.toNat)

/-- The flags of `add8(a, b, cin)` (R200). -/
def add8Flags (a b : Byte) (cin : Bool) : Flags where
  z := add8 a b cin == 0
  n := false
  h := decide (a.toNat % 16 + b.toNat % 16 + cin.toNat ≥ 16)
  c := decide (a.toNat + b.toNat + cin.toNat ≥ 256)

/-- The result of `sub8(a, b, cin)` (R201). -/
def sub8 (a b : Byte) (cin : Bool) : Byte := a - b - BitVec.ofNat 8 cin.toNat

/-- The flags of `sub8(a, b, cin)` (R201). -/
def sub8Flags (a b : Byte) (cin : Bool) : Flags where
  z := sub8 a b cin == 0
  n := true
  h := decide (a.toNat % 16 < b.toNat % 16 + cin.toNat)
  c := decide (a.toNat < b.toNat + cin.toNat)

/-- The flags of AND (R214), with H = 1, and of XOR and OR (R217, R220), with H = 0. -/
def logicFlags (res : Byte) (h : Bool) : Flags := ⟨res == 0, false, h, false⟩

/-- What an ALU operation writes to A: for CP, A itself (R202 to R225). -/
def aluResult (op : AluOp) (a s : Byte) (f : Flags) : Byte :=
  match op with
  | .add => add8 a s false
  | .adc => add8 a s f.c
  | .sub => sub8 a s false
  | .sbc => sub8 a s f.c
  | .and => a &&& s
  | .xor => a ^^^ s
  | .or => a ||| s
  | .cp => a

/-- The flags an ALU operation leaves (R202 to R225). -/
def aluFlags (op : AluOp) (a s : Byte) (f : Flags) : Flags :=
  match op with
  | .add => add8Flags a s false
  | .adc => add8Flags a s f.c
  | .sub => sub8Flags a s false
  | .sbc => sub8Flags a s f.c
  | .and => logicFlags (a &&& s) true
  | .xor => logicFlags (a ^^^ s) false
  | .or => logicFlags (a ||| s) false
  | .cp => sub8Flags a s false

/-! ### Increment, decrement, decimal adjust -/

/-- The flags of INC (R226); C is kept. -/
def incFlags (v : Byte) (f : Flags) : Flags := ⟨v + 1 == 0, false, decide (v.toNat % 16 = 15), f.c⟩

/-- The flags of DEC (R228); C is kept. -/
def decFlags (v : Byte) (f : Flags) : Flags := ⟨v - 1 == 0, true, decide (v.toNat % 16 = 0), f.c⟩

/-- Whether DAA applies the 0x60 adjustment (R230). -/
def daaHigh (a : Byte) (f : Flags) : Bool := f.c || (!f.n && decide (a.toNat > 0x99))

/-- Whether DAA applies the 0x06 adjustment (R230). -/
def daaLow (a : Byte) (f : Flags) : Bool := f.h || (!f.n && decide (a.toNat % 16 > 0x09))

/-- The result of DAA (R230): the adjustment is added after an addition, subtracted after a subtraction. -/
def daaResult (a : Byte) (f : Flags) : Byte :=
  let adj : Byte := (if daaHigh a f then 0x60 else 0) ||| (if daaLow a f then 0x06 else 0)
  if f.n then a - adj else a + adj

/-- The flags of DAA (R230): N is kept. -/
def daaFlags (a : Byte) (f : Flags) : Flags := ⟨daaResult a f == 0, f.n, false, daaHigh a f⟩

/-! ### 16-bit addition -/

/-- The flags of ADD HL,rr (R240); Z is kept. -/
def addHlFlags (x y : Word) (f : Flags) : Flags where
  z := f.z
  n := false
  h := decide (x.toNat % 0x1000 + y.toNat % 0x1000 ≥ 0x1000)
  c := decide (x.toNat + y.toNat ≥ 0x10000)

/-- The result of `sp_plus_e(e)` (R243). -/
def spPlusE (sp : Word) (e : Byte) : Word := sp + sext16 e

/-- The flags of `sp_plus_e(e)` (R243): carries of the unsigned low-byte addition. -/
def spPlusEFlags (sp : Word) (e : Byte) : Flags where
  z := false
  n := false
  h := decide (sp.toNat % 16 + e.toNat % 16 ≥ 16)
  c := decide (sp.toNat % 256 + e.toNat ≥ 256)

/-! ### Rotates, shifts, single bits -/

/-- The byte with `bit` at position `k` and 0 elsewhere. -/
def bitAt (bit : Bool) (k : Nat) : Byte := if bit then 0x01#8 <<< k else 0x00

/-- The result of a rotate, shift or swap (R260 to R280), with `cin` the carry flag before it. -/
def rotResult (op : RotOp) (v : Byte) (cin : Bool) : Byte :=
  match op with
  | .rlc => (v <<< 1) ||| bitAt (v.getLsbD 7) 0
  | .rrc => (v >>> 1) ||| bitAt (v.getLsbD 0) 7
  | .rl => (v <<< 1) ||| bitAt cin 0
  | .rr => (v >>> 1) ||| bitAt cin 7
  | .sla => v <<< 1
  | .sra => (v >>> 1) ||| (v &&& 0x80)
  | .swap => ((v &&& 0x0F) <<< 4) ||| (v >>> 4)
  | .srl => v >>> 1

/-- The carry a rotate, shift or swap leaves: the bit shifted out, or 0 for SWAP (R260 to R280). -/
def rotCarry (op : RotOp) (v : Byte) : Bool :=
  match op with
  | .rlc | .rl | .sla => v.getLsbD 7
  | .rrc | .rr | .sra | .srl => v.getLsbD 0
  | .swap => false

/-- The flags of a CB rotate, shift or swap (R265 to R280). -/
def rotFlags (op : RotOp) (v : Byte) (cin : Bool) : Flags := ⟨rotResult op v cin == 0, false, false, rotCarry op v⟩

/-- The flags of an accumulator rotate: Z per `ROT_A_Z` (R260 to R263). -/
def rotAFlags (g : Config) (op : RotOp) (v : Byte) (f : Flags) : Flags where
  z := match g.rotAZ with
    | .preserve => f.z
    | .clear => false
  n := false
  h := false
  c := rotCarry op v

/-- The flags of BIT b (R281); C is kept. -/
def bitFlags (b : Fin 8) (v : Byte) (f : Flags) : Flags := ⟨!v.getLsbD b.val, false, true, f.c⟩

/-- `v & ~(1 << b)` (R283). -/
def clearBit (b : Fin 8) (v : Byte) : Byte := v &&& ~~~(0x01#8 <<< b.val)

/-- `v | (1 << b)` (R285). -/
def setBit (b : Fin 8) (v : Byte) : Byte := v ||| (0x01#8 <<< b.val)

end Sys2Proof.Machine
end

