-- ==== Sys2Proof/Machine/Operands.lean ====
section
/-! DEFINITION. Every operand form: the 8-bit registers (R102), the register pairs as views of the cells (R22,
R103), the push/pop pairs with AF (R23, R104), the conditions (R105, R300), HL with its increment and
decrement (R24), and the memory byte at HL. -/

namespace Sys2Proof.Machine

/-! ### 8-bit registers -/

/-- `reg[r]` (R11). -/
def State.reg (s : State) : Reg8 → Byte
  | .a => s.a
  | .b => s.b
  | .c => s.c
  | .d => s.d
  | .e => s.e
  | .h => s.h
  | .l => s.l

/-- `reg[r] <- v` (R11). -/
def State.setReg (s : State) (r : Reg8) (v : Byte) : State :=
  match r with
  | .a => { s with a := v }
  | .b => { s with b := v }
  | .c => { s with c := v }
  | .d => { s with d := v }
  | .e => { s with e := v }
  | .h => { s with h := v }
  | .l => { s with l := v }

/-- F is replaced as a whole. -/
def State.setFlags (s : State) (f : Flags) : State := { s with f := f }

/-! ### Register pairs: the high cell first (R22) -/

/-- `BC = B*256 + C`. -/
def State.bc (s : State) : Word := cat s.b s.c

/-- `DE = D*256 + E`. -/
def State.de (s : State) : Word := cat s.d s.e

/-- `HL = H*256 + L`. -/
def State.hl (s : State) : Word := cat s.h s.l

/-- `AF = A*256 + F_byte` (R23). -/
def State.af (s : State) : Word := cat s.a s.f.toByte

/-- `HL <- v`. -/
def State.setHl (s : State) (v : Word) : State := { s with h := hi8 v, l := lo8 v }

/-- `pair[rr]` (R103). -/
def State.pair (s : State) : Pair → Word
  | .bc => s.bc
  | .de => s.de
  | .hl => s.hl
  | .sp => s.sp

/-- `pair[rr] <- v` (R22, R103). -/
def State.setPair (s : State) (p : Pair) (v : Word) : State :=
  match p with
  | .bc => { s with b := hi8 v, c := lo8 v }
  | .de => { s with d := hi8 v, e := lo8 v }
  | .hl => s.setHl v
  | .sp => { s with sp := v }

/-- `pair[qq]` (R104). -/
def State.stackPair (s : State) : StackPair → Word
  | .bc => s.bc
  | .de => s.de
  | .hl => s.hl
  | .af => s.af

/-- `pair[qq] <- v` (R104); for AF, `set_af` (R23). -/
def State.setStackPair (s : State) (q : StackPair) (v : Word) : State :=
  match q with
  | .bc => { s with b := hi8 v, c := lo8 v }
  | .de => { s with d := hi8 v, e := lo8 v }
  | .hl => s.setHl v
  | .af => { s with a := hi8 v, f := Flags.ofByte (lo8 v) }

/-! ### HL as an address -/

/-- The state `hl_increment()` leaves; the value it returns is `s.hl` (R24). -/
def State.hlIncremented (s : State) : State := s.setHl (s.hl + 1)

/-- The state `hl_decrement()` leaves; the value it returns is `s.hl` (R24). -/
def State.hlDecremented (s : State) : State := s.setHl (s.hl - 1)

/-- The memory byte at HL: operand code 6 (R102, R264). -/
def State.atHl (s : State) : Byte := s.memRead s.hl

/-- A CPU write to the memory byte at HL (R264). -/
def State.setAtHl (s : State) (v : Byte) : State := s.memWrite s.hl v

/-! ### Conditions -/

/-- `cond(cc)` (R300). -/
def State.cond (s : State) : Cond → Bool
  | .nz => !s.f.z
  | .z => s.f.z
  | .nc => !s.f.c
  | .c => s.f.c

end Sys2Proof.Machine
end

