-- ==== Sys2Proof/Machine/Alu16.lean ====
section
/-! DEFINITION. The meanings of 16-bit arithmetic (43_alu16.md, R240 to R244). -/

namespace Sys2Proof.Machine

/-- ADD HL,rr (R240): both operands are read before the write. -/
def addToHl (p : Pair) (s : State) : Result :=
  .next (((s.setHl (s.hl + s.pair p)).setFlags (addHlFlags s.hl (s.pair p) s.f)).returns 8)

/-- INC rr (R241). -/
def incPair (p : Pair) (s : State) : Result := .next ((s.setPair p (s.pair p + 1)).returns 8)

/-- DEC rr (R242). -/
def decPair (p : Pair) (s : State) : Result := .next ((s.setPair p (s.pair p - 1)).returns 8)

/-- INC BC (R241). -/
def execInc_BC (s : State) : Result := incPair .bc s

/-- ADD HL,BC (R240). -/
def execAdd_HL_BC (s : State) : Result := addToHl .bc s

/-- DEC BC (R242). -/
def execDec_BC (s : State) : Result := decPair .bc s

/-- INC DE (R241). -/
def execInc_DE (s : State) : Result := incPair .de s

/-- ADD HL,DE (R240). -/
def execAdd_HL_DE (s : State) : Result := addToHl .de s

/-- DEC DE (R242). -/
def execDec_DE (s : State) : Result := decPair .de s

/-- INC HL (R241). -/
def execInc_HL (s : State) : Result := incPair .hl s

/-- ADD HL,HL (R240). -/
def execAdd_HL_HL (s : State) : Result := addToHl .hl s

/-- DEC HL (R242). -/
def execDec_HL (s : State) : Result := decPair .hl s

/-- INC SP (R241). -/
def execInc_SP (s : State) : Result := incPair .sp s

/-- ADD HL,SP (R240). -/
def execAdd_HL_SP (s : State) : Result := addToHl .sp s

/-- DEC SP (R242). -/
def execDec_SP (s : State) : Result := decPair .sp s

/-- ADD SP,e (R244). -/
def execAdd_SP_e (e : Byte) (s : State) : Result :=
  .next (({ s with sp := spPlusE s.sp e }.setFlags (spPlusEFlags s.sp e)).returns 16)

end Sys2Proof.Machine
end

