-- ==== Sys2Proof/Machine/Alu8.lean ====
section
/-! DEFINITION. The meanings of 8-bit arithmetic and logic (42_alu8.md, R200 to R233). -/

namespace Sys2Proof.Machine

/-- An ALU operation on A and the operand `v` (R202 to R225); CP leaves A. -/
def aluOn (op : AluOp) (v : Byte) (count : Nat) (s : State) : Result :=
  .next (((s.setReg .a (aluResult op s.a v s.f)).setFlags (aluFlags op s.a v s.f)).returns count)

/-- INC r (R226). -/
def incReg (r : Reg8) (s : State) : Result :=
  .next (((s.setReg r (s.reg r + 1)).setFlags (incFlags (s.reg r) s.f)).returns 4)

/-- INC (HL) (R227): one read, then one write. -/
def incMem (s : State) : Result :=
  .next (((s.setAtHl (s.atHl + 1)).setFlags (incFlags s.atHl s.f)).returns 12)

/-- DEC r (R228). -/
def decReg (r : Reg8) (s : State) : Result :=
  .next (((s.setReg r (s.reg r - 1)).setFlags (decFlags (s.reg r) s.f)).returns 4)

/-- DEC (HL) (R229): one read, then one write. -/
def decMem (s : State) : Result :=
  .next (((s.setAtHl (s.atHl - 1)).setFlags (decFlags s.atHl s.f)).returns 12)

/-- INC B (R226). -/
def execInc_B (s : State) : Result := incReg .b s

/-- DEC B (R228). -/
def execDec_B (s : State) : Result := decReg .b s

/-- INC C (R226). -/
def execInc_C (s : State) : Result := incReg .c s

/-- DEC C (R228). -/
def execDec_C (s : State) : Result := decReg .c s

/-- INC D (R226). -/
def execInc_D (s : State) : Result := incReg .d s

/-- DEC D (R228). -/
def execDec_D (s : State) : Result := decReg .d s

/-- INC E (R226). -/
def execInc_E (s : State) : Result := incReg .e s

/-- DEC E (R228). -/
def execDec_E (s : State) : Result := decReg .e s

/-- INC H (R226). -/
def execInc_H (s : State) : Result := incReg .h s

/-- DEC H (R228). -/
def execDec_H (s : State) : Result := decReg .h s

/-- DAA (R230). -/
def execDaa (s : State) : Result :=
  .next (((s.setReg .a (daaResult s.a s.f)).setFlags (daaFlags s.a s.f)).returns 4)

/-- INC L (R226). -/
def execInc_L (s : State) : Result := incReg .l s

/-- DEC L (R228). -/
def execDec_L (s : State) : Result := decReg .l s

/-- CPL (R231). -/
def execCpl (s : State) : Result :=
  .next (((s.setReg .a (~~~s.a)).setFlags { s.f with n := true, h := true }).returns 4)

/-- INC (HL) (R227). -/
def execInc_AtHL (s : State) : Result := incMem s

/-- DEC (HL) (R229). -/
def execDec_AtHL (s : State) : Result := decMem s

/-- SCF (R232). -/
def execScf (s : State) : Result :=
  .next ((s.setFlags { s.f with n := false, h := false, c := true }).returns 4)

/-- INC A (R226). -/
def execInc_A (s : State) : Result := incReg .a s

/-- DEC A (R228). -/
def execDec_A (s : State) : Result := decReg .a s

/-- CCF (R233). -/
def execCcf (s : State) : Result :=
  .next ((s.setFlags { s.f with n := false, h := false, c := !s.f.c }).returns 4)

/-- ADD A,B (R202). -/
def execAdd_A_B (s : State) : Result := aluOn .add (s.reg .b) 4 s

/-- ADD A,C (R202). -/
def execAdd_A_C (s : State) : Result := aluOn .add (s.reg .c) 4 s

/-- ADD A,D (R202). -/
def execAdd_A_D (s : State) : Result := aluOn .add (s.reg .d) 4 s

/-- ADD A,E (R202). -/
def execAdd_A_E (s : State) : Result := aluOn .add (s.reg .e) 4 s

/-- ADD A,H (R202). -/
def execAdd_A_H (s : State) : Result := aluOn .add (s.reg .h) 4 s

/-- ADD A,L (R202). -/
def execAdd_A_L (s : State) : Result := aluOn .add (s.reg .l) 4 s

/-- ADD A,(HL) (R203). -/
def execAdd_A_AtHL (s : State) : Result := aluOn .add s.atHl 8 s

/-- ADD A,A (R202). -/
def execAdd_A_A (s : State) : Result := aluOn .add (s.reg .a) 4 s

/-- ADC A,B (R205). -/
def execAdc_A_B (s : State) : Result := aluOn .adc (s.reg .b) 4 s

/-- ADC A,C (R205). -/
def execAdc_A_C (s : State) : Result := aluOn .adc (s.reg .c) 4 s

/-- ADC A,D (R205). -/
def execAdc_A_D (s : State) : Result := aluOn .adc (s.reg .d) 4 s

/-- ADC A,E (R205). -/
def execAdc_A_E (s : State) : Result := aluOn .adc (s.reg .e) 4 s

/-- ADC A,H (R205). -/
def execAdc_A_H (s : State) : Result := aluOn .adc (s.reg .h) 4 s

/-- ADC A,L (R205). -/
def execAdc_A_L (s : State) : Result := aluOn .adc (s.reg .l) 4 s

/-- ADC A,(HL) (R206). -/
def execAdc_A_AtHL (s : State) : Result := aluOn .adc s.atHl 8 s

/-- ADC A,A (R205). -/
def execAdc_A_A (s : State) : Result := aluOn .adc (s.reg .a) 4 s

/-- SUB B (R208). -/
def execSub_B (s : State) : Result := aluOn .sub (s.reg .b) 4 s

/-- SUB C (R208). -/
def execSub_C (s : State) : Result := aluOn .sub (s.reg .c) 4 s

/-- SUB D (R208). -/
def execSub_D (s : State) : Result := aluOn .sub (s.reg .d) 4 s

/-- SUB E (R208). -/
def execSub_E (s : State) : Result := aluOn .sub (s.reg .e) 4 s

/-- SUB H (R208). -/
def execSub_H (s : State) : Result := aluOn .sub (s.reg .h) 4 s

/-- SUB L (R208). -/
def execSub_L (s : State) : Result := aluOn .sub (s.reg .l) 4 s

/-- SUB (HL) (R209). -/
def execSub_AtHL (s : State) : Result := aluOn .sub s.atHl 8 s

/-- SUB A (R208). -/
def execSub_A (s : State) : Result := aluOn .sub (s.reg .a) 4 s

/-- SBC A,B (R211). -/
def execSbc_A_B (s : State) : Result := aluOn .sbc (s.reg .b) 4 s

/-- SBC A,C (R211). -/
def execSbc_A_C (s : State) : Result := aluOn .sbc (s.reg .c) 4 s

/-- SBC A,D (R211). -/
def execSbc_A_D (s : State) : Result := aluOn .sbc (s.reg .d) 4 s

/-- SBC A,E (R211). -/
def execSbc_A_E (s : State) : Result := aluOn .sbc (s.reg .e) 4 s

/-- SBC A,H (R211). -/
def execSbc_A_H (s : State) : Result := aluOn .sbc (s.reg .h) 4 s

/-- SBC A,L (R211). -/
def execSbc_A_L (s : State) : Result := aluOn .sbc (s.reg .l) 4 s

/-- SBC A,(HL) (R212). -/
def execSbc_A_AtHL (s : State) : Result := aluOn .sbc s.atHl 8 s

/-- SBC A,A (R211). -/
def execSbc_A_A (s : State) : Result := aluOn .sbc (s.reg .a) 4 s

/-- AND B (R214). -/
def execAnd_B (s : State) : Result := aluOn .and (s.reg .b) 4 s

/-- AND C (R214). -/
def execAnd_C (s : State) : Result := aluOn .and (s.reg .c) 4 s

/-- AND D (R214). -/
def execAnd_D (s : State) : Result := aluOn .and (s.reg .d) 4 s

/-- AND E (R214). -/
def execAnd_E (s : State) : Result := aluOn .and (s.reg .e) 4 s

/-- AND H (R214). -/
def execAnd_H (s : State) : Result := aluOn .and (s.reg .h) 4 s

/-- AND L (R214). -/
def execAnd_L (s : State) : Result := aluOn .and (s.reg .l) 4 s

/-- AND (HL) (R215). -/
def execAnd_AtHL (s : State) : Result := aluOn .and s.atHl 8 s

/-- AND A (R214). -/
def execAnd_A (s : State) : Result := aluOn .and (s.reg .a) 4 s

/-- XOR B (R217). -/
def execXor_B (s : State) : Result := aluOn .xor (s.reg .b) 4 s

/-- XOR C (R217). -/
def execXor_C (s : State) : Result := aluOn .xor (s.reg .c) 4 s

/-- XOR D (R217). -/
def execXor_D (s : State) : Result := aluOn .xor (s.reg .d) 4 s

/-- XOR E (R217). -/
def execXor_E (s : State) : Result := aluOn .xor (s.reg .e) 4 s

/-- XOR H (R217). -/
def execXor_H (s : State) : Result := aluOn .xor (s.reg .h) 4 s

/-- XOR L (R217). -/
def execXor_L (s : State) : Result := aluOn .xor (s.reg .l) 4 s

/-- XOR (HL) (R218). -/
def execXor_AtHL (s : State) : Result := aluOn .xor s.atHl 8 s

/-- XOR A (R217). -/
def execXor_A (s : State) : Result := aluOn .xor (s.reg .a) 4 s

/-- OR B (R220). -/
def execOr_B (s : State) : Result := aluOn .or (s.reg .b) 4 s

/-- OR C (R220). -/
def execOr_C (s : State) : Result := aluOn .or (s.reg .c) 4 s

/-- OR D (R220). -/
def execOr_D (s : State) : Result := aluOn .or (s.reg .d) 4 s

/-- OR E (R220). -/
def execOr_E (s : State) : Result := aluOn .or (s.reg .e) 4 s

/-- OR H (R220). -/
def execOr_H (s : State) : Result := aluOn .or (s.reg .h) 4 s

/-- OR L (R220). -/
def execOr_L (s : State) : Result := aluOn .or (s.reg .l) 4 s

/-- OR (HL) (R221). -/
def execOr_AtHL (s : State) : Result := aluOn .or s.atHl 8 s

/-- OR A (R220). -/
def execOr_A (s : State) : Result := aluOn .or (s.reg .a) 4 s

/-- CP B (R223). -/
def execCp_B (s : State) : Result := aluOn .cp (s.reg .b) 4 s

/-- CP C (R223). -/
def execCp_C (s : State) : Result := aluOn .cp (s.reg .c) 4 s

/-- CP D (R223). -/
def execCp_D (s : State) : Result := aluOn .cp (s.reg .d) 4 s

/-- CP E (R223). -/
def execCp_E (s : State) : Result := aluOn .cp (s.reg .e) 4 s

/-- CP H (R223). -/
def execCp_H (s : State) : Result := aluOn .cp (s.reg .h) 4 s

/-- CP L (R223). -/
def execCp_L (s : State) : Result := aluOn .cp (s.reg .l) 4 s

/-- CP (HL) (R224). -/
def execCp_AtHL (s : State) : Result := aluOn .cp s.atHl 8 s

/-- CP A (R223). -/
def execCp_A (s : State) : Result := aluOn .cp (s.reg .a) 4 s

/-- ADD A,n (R204). -/
def execAdd_A_n (n : Byte) (s : State) : Result := aluOn .add n 8 s

/-- ADC A,n (R207). -/
def execAdc_A_n (n : Byte) (s : State) : Result := aluOn .adc n 8 s

/-- SUB n (R210). -/
def execSub_n (n : Byte) (s : State) : Result := aluOn .sub n 8 s

/-- SBC A,n (R213). -/
def execSbc_A_n (n : Byte) (s : State) : Result := aluOn .sbc n 8 s

/-- AND n (R216). -/
def execAnd_n (n : Byte) (s : State) : Result := aluOn .and n 8 s

/-- XOR n (R219). -/
def execXor_n (n : Byte) (s : State) : Result := aluOn .xor n 8 s

/-- OR n (R222). -/
def execOr_n (n : Byte) (s : State) : Result := aluOn .or n 8 s

/-- CP n (R225). -/
def execCp_n (n : Byte) (s : State) : Result := aluOn .cp n 8 s

end Sys2Proof.Machine
end

