-- ==== Sys2Proof/Machine/BitOps.lean ====
section
/-! DEFINITION. The meanings of rotates, shifts and bit operations (44_bitops.md, R260 to R286). -/

namespace Sys2Proof.Machine

/-- RLCA, RRCA, RLA, RRA (R260 to R263): Z per `ROT_A_Z`. -/
def rotA (op : RotOp) (s : State) : Result :=
  .next (((s.setReg .a (rotResult op s.a s.f.c)).setFlags (rotAFlags s.cfg op s.a s.f)).returns 4)

/-- A CB rotate, shift or swap of a register (R265, R267, R269, R271, R273, R275, R277, R279). -/
def rotReg (op : RotOp) (r : Reg8) (s : State) : Result :=
  .next (((s.setReg r (rotResult op (s.reg r) s.f.c)).setFlags (rotFlags op (s.reg r) s.f.c)).returns 8)

/-- A CB rotate, shift or swap of the byte at HL (R266, R268, R270, R272, R274, R276, R278, R280). -/
def rotMem (op : RotOp) (s : State) : Result :=
  .next (((s.setAtHl (rotResult op s.atHl s.f.c)).setFlags (rotFlags op s.atHl s.f.c)).returns 16)

/-- BIT b,r (R281). -/
def bitReg (b : Fin 8) (r : Reg8) (s : State) : Result :=
  .next ((s.setFlags (bitFlags b (s.reg r) s.f)).returns 8)

/-- BIT b,(HL) (R282): the byte is read, never written. -/
def bitMem (b : Fin 8) (s : State) : Result := .next ((s.setFlags (bitFlags b s.atHl s.f)).returns 12)

/-- RES b,r (R283). -/
def resReg (b : Fin 8) (r : Reg8) (s : State) : Result := .next ((s.setReg r (clearBit b (s.reg r))).returns 8)

/-- RES b,(HL) (R284). -/
def resMem (b : Fin 8) (s : State) : Result := .next ((s.setAtHl (clearBit b s.atHl)).returns 16)

/-- SET b,r (R285). -/
def setReg8 (b : Fin 8) (r : Reg8) (s : State) : Result := .next ((s.setReg r (setBit b (s.reg r))).returns 8)

/-- SET b,(HL) (R286). -/
def setMem (b : Fin 8) (s : State) : Result := .next ((s.setAtHl (setBit b s.atHl)).returns 16)

/-- RLCA (R260). -/
def execRlca (s : State) : Result := rotA .rlc s

/-- RRCA (R261). -/
def execRrca (s : State) : Result := rotA .rrc s

/-- RLA (R262). -/
def execRla (s : State) : Result := rotA .rl s

/-- RRA (R263). -/
def execRra (s : State) : Result := rotA .rr s

/-- RLC B (R265). -/
def execRlc_B (s : State) : Result := rotReg .rlc .b s

/-- RLC C (R265). -/
def execRlc_C (s : State) : Result := rotReg .rlc .c s

/-- RLC D (R265). -/
def execRlc_D (s : State) : Result := rotReg .rlc .d s

/-- RLC E (R265). -/
def execRlc_E (s : State) : Result := rotReg .rlc .e s

/-- RLC H (R265). -/
def execRlc_H (s : State) : Result := rotReg .rlc .h s

/-- RLC L (R265). -/
def execRlc_L (s : State) : Result := rotReg .rlc .l s

/-- RLC (HL) (R266). -/
def execRlc_AtHL (s : State) : Result := rotMem .rlc s

/-- RLC A (R265). -/
def execRlc_A (s : State) : Result := rotReg .rlc .a s

/-- RRC B (R267). -/
def execRrc_B (s : State) : Result := rotReg .rrc .b s

/-- RRC C (R267). -/
def execRrc_C (s : State) : Result := rotReg .rrc .c s

/-- RRC D (R267). -/
def execRrc_D (s : State) : Result := rotReg .rrc .d s

/-- RRC E (R267). -/
def execRrc_E (s : State) : Result := rotReg .rrc .e s

/-- RRC H (R267). -/
def execRrc_H (s : State) : Result := rotReg .rrc .h s

/-- RRC L (R267). -/
def execRrc_L (s : State) : Result := rotReg .rrc .l s

/-- RRC (HL) (R268). -/
def execRrc_AtHL (s : State) : Result := rotMem .rrc s

/-- RRC A (R267). -/
def execRrc_A (s : State) : Result := rotReg .rrc .a s

/-- RL B (R269). -/
def execRl_B (s : State) : Result := rotReg .rl .b s

/-- RL C (R269). -/
def execRl_C (s : State) : Result := rotReg .rl .c s

/-- RL D (R269). -/
def execRl_D (s : State) : Result := rotReg .rl .d s

/-- RL E (R269). -/
def execRl_E (s : State) : Result := rotReg .rl .e s

/-- RL H (R269). -/
def execRl_H (s : State) : Result := rotReg .rl .h s

/-- RL L (R269). -/
def execRl_L (s : State) : Result := rotReg .rl .l s

/-- RL (HL) (R270). -/
def execRl_AtHL (s : State) : Result := rotMem .rl s

/-- RL A (R269). -/
def execRl_A (s : State) : Result := rotReg .rl .a s

/-- RR B (R271). -/
def execRr_B (s : State) : Result := rotReg .rr .b s

/-- RR C (R271). -/
def execRr_C (s : State) : Result := rotReg .rr .c s

/-- RR D (R271). -/
def execRr_D (s : State) : Result := rotReg .rr .d s

/-- RR E (R271). -/
def execRr_E (s : State) : Result := rotReg .rr .e s

/-- RR H (R271). -/
def execRr_H (s : State) : Result := rotReg .rr .h s

/-- RR L (R271). -/
def execRr_L (s : State) : Result := rotReg .rr .l s

/-- RR (HL) (R272). -/
def execRr_AtHL (s : State) : Result := rotMem .rr s

/-- RR A (R271). -/
def execRr_A (s : State) : Result := rotReg .rr .a s

/-- SLA B (R273). -/
def execSla_B (s : State) : Result := rotReg .sla .b s

/-- SLA C (R273). -/
def execSla_C (s : State) : Result := rotReg .sla .c s

/-- SLA D (R273). -/
def execSla_D (s : State) : Result := rotReg .sla .d s

/-- SLA E (R273). -/
def execSla_E (s : State) : Result := rotReg .sla .e s

/-- SLA H (R273). -/
def execSla_H (s : State) : Result := rotReg .sla .h s

/-- SLA L (R273). -/
def execSla_L (s : State) : Result := rotReg .sla .l s

/-- SLA (HL) (R274). -/
def execSla_AtHL (s : State) : Result := rotMem .sla s

/-- SLA A (R273). -/
def execSla_A (s : State) : Result := rotReg .sla .a s

/-- SRA B (R275). -/
def execSra_B (s : State) : Result := rotReg .sra .b s

/-- SRA C (R275). -/
def execSra_C (s : State) : Result := rotReg .sra .c s

/-- SRA D (R275). -/
def execSra_D (s : State) : Result := rotReg .sra .d s

/-- SRA E (R275). -/
def execSra_E (s : State) : Result := rotReg .sra .e s

/-- SRA H (R275). -/
def execSra_H (s : State) : Result := rotReg .sra .h s

/-- SRA L (R275). -/
def execSra_L (s : State) : Result := rotReg .sra .l s

/-- SRA (HL) (R276). -/
def execSra_AtHL (s : State) : Result := rotMem .sra s

/-- SRA A (R275). -/
def execSra_A (s : State) : Result := rotReg .sra .a s

/-- SWAP B (R277). -/
def execSwap_B (s : State) : Result := rotReg .swap .b s

/-- SWAP C (R277). -/
def execSwap_C (s : State) : Result := rotReg .swap .c s

/-- SWAP D (R277). -/
def execSwap_D (s : State) : Result := rotReg .swap .d s

/-- SWAP E (R277). -/
def execSwap_E (s : State) : Result := rotReg .swap .e s

/-- SWAP H (R277). -/
def execSwap_H (s : State) : Result := rotReg .swap .h s

/-- SWAP L (R277). -/
def execSwap_L (s : State) : Result := rotReg .swap .l s

/-- SWAP (HL) (R278). -/
def execSwap_AtHL (s : State) : Result := rotMem .swap s

/-- SWAP A (R277). -/
def execSwap_A (s : State) : Result := rotReg .swap .a s

/-- SRL B (R279). -/
def execSrl_B (s : State) : Result := rotReg .srl .b s

/-- SRL C (R279). -/
def execSrl_C (s : State) : Result := rotReg .srl .c s

/-- SRL D (R279). -/
def execSrl_D (s : State) : Result := rotReg .srl .d s

/-- SRL E (R279). -/
def execSrl_E (s : State) : Result := rotReg .srl .e s

/-- SRL H (R279). -/
def execSrl_H (s : State) : Result := rotReg .srl .h s

/-- SRL L (R279). -/
def execSrl_L (s : State) : Result := rotReg .srl .l s

/-- SRL (HL) (R280). -/
def execSrl_AtHL (s : State) : Result := rotMem .srl s

/-- SRL A (R279). -/
def execSrl_A (s : State) : Result := rotReg .srl .a s

/-- BIT 0,B (R281). -/
def execBit_0_B (s : State) : Result := bitReg 0 .b s

/-- BIT 0,C (R281). -/
def execBit_0_C (s : State) : Result := bitReg 0 .c s

/-- BIT 0,D (R281). -/
def execBit_0_D (s : State) : Result := bitReg 0 .d s

/-- BIT 0,E (R281). -/
def execBit_0_E (s : State) : Result := bitReg 0 .e s

/-- BIT 0,H (R281). -/
def execBit_0_H (s : State) : Result := bitReg 0 .h s

/-- BIT 0,L (R281). -/
def execBit_0_L (s : State) : Result := bitReg 0 .l s

/-- BIT 0,(HL) (R282). -/
def execBit_0_AtHL (s : State) : Result := bitMem 0 s

/-- BIT 0,A (R281). -/
def execBit_0_A (s : State) : Result := bitReg 0 .a s

/-- BIT 1,B (R281). -/
def execBit_1_B (s : State) : Result := bitReg 1 .b s

/-- BIT 1,C (R281). -/
def execBit_1_C (s : State) : Result := bitReg 1 .c s

/-- BIT 1,D (R281). -/
def execBit_1_D (s : State) : Result := bitReg 1 .d s

/-- BIT 1,E (R281). -/
def execBit_1_E (s : State) : Result := bitReg 1 .e s

/-- BIT 1,H (R281). -/
def execBit_1_H (s : State) : Result := bitReg 1 .h s

/-- BIT 1,L (R281). -/
def execBit_1_L (s : State) : Result := bitReg 1 .l s

/-- BIT 1,(HL) (R282). -/
def execBit_1_AtHL (s : State) : Result := bitMem 1 s

/-- BIT 1,A (R281). -/
def execBit_1_A (s : State) : Result := bitReg 1 .a s

/-- BIT 2,B (R281). -/
def execBit_2_B (s : State) : Result := bitReg 2 .b s

/-- BIT 2,C (R281). -/
def execBit_2_C (s : State) : Result := bitReg 2 .c s

/-- BIT 2,D (R281). -/
def execBit_2_D (s : State) : Result := bitReg 2 .d s

/-- BIT 2,E (R281). -/
def execBit_2_E (s : State) : Result := bitReg 2 .e s

/-- BIT 2,H (R281). -/
def execBit_2_H (s : State) : Result := bitReg 2 .h s

/-- BIT 2,L (R281). -/
def execBit_2_L (s : State) : Result := bitReg 2 .l s

/-- BIT 2,(HL) (R282). -/
def execBit_2_AtHL (s : State) : Result := bitMem 2 s

/-- BIT 2,A (R281). -/
def execBit_2_A (s : State) : Result := bitReg 2 .a s

/-- BIT 3,B (R281). -/
def execBit_3_B (s : State) : Result := bitReg 3 .b s

/-- BIT 3,C (R281). -/
def execBit_3_C (s : State) : Result := bitReg 3 .c s

/-- BIT 3,D (R281). -/
def execBit_3_D (s : State) : Result := bitReg 3 .d s

/-- BIT 3,E (R281). -/
def execBit_3_E (s : State) : Result := bitReg 3 .e s

/-- BIT 3,H (R281). -/
def execBit_3_H (s : State) : Result := bitReg 3 .h s

/-- BIT 3,L (R281). -/
def execBit_3_L (s : State) : Result := bitReg 3 .l s

/-- BIT 3,(HL) (R282). -/
def execBit_3_AtHL (s : State) : Result := bitMem 3 s

/-- BIT 3,A (R281). -/
def execBit_3_A (s : State) : Result := bitReg 3 .a s

/-- BIT 4,B (R281). -/
def execBit_4_B (s : State) : Result := bitReg 4 .b s

/-- BIT 4,C (R281). -/
def execBit_4_C (s : State) : Result := bitReg 4 .c s

/-- BIT 4,D (R281). -/
def execBit_4_D (s : State) : Result := bitReg 4 .d s

/-- BIT 4,E (R281). -/
def execBit_4_E (s : State) : Result := bitReg 4 .e s

/-- BIT 4,H (R281). -/
def execBit_4_H (s : State) : Result := bitReg 4 .h s

/-- BIT 4,L (R281). -/
def execBit_4_L (s : State) : Result := bitReg 4 .l s

/-- BIT 4,(HL) (R282). -/
def execBit_4_AtHL (s : State) : Result := bitMem 4 s

/-- BIT 4,A (R281). -/
def execBit_4_A (s : State) : Result := bitReg 4 .a s

/-- BIT 5,B (R281). -/
def execBit_5_B (s : State) : Result := bitReg 5 .b s

/-- BIT 5,C (R281). -/
def execBit_5_C (s : State) : Result := bitReg 5 .c s

/-- BIT 5,D (R281). -/
def execBit_5_D (s : State) : Result := bitReg 5 .d s

/-- BIT 5,E (R281). -/
def execBit_5_E (s : State) : Result := bitReg 5 .e s

/-- BIT 5,H (R281). -/
def execBit_5_H (s : State) : Result := bitReg 5 .h s

/-- BIT 5,L (R281). -/
def execBit_5_L (s : State) : Result := bitReg 5 .l s

/-- BIT 5,(HL) (R282). -/
def execBit_5_AtHL (s : State) : Result := bitMem 5 s

/-- BIT 5,A (R281). -/
def execBit_5_A (s : State) : Result := bitReg 5 .a s

/-- BIT 6,B (R281). -/
def execBit_6_B (s : State) : Result := bitReg 6 .b s

/-- BIT 6,C (R281). -/
def execBit_6_C (s : State) : Result := bitReg 6 .c s

/-- BIT 6,D (R281). -/
def execBit_6_D (s : State) : Result := bitReg 6 .d s

/-- BIT 6,E (R281). -/
def execBit_6_E (s : State) : Result := bitReg 6 .e s

/-- BIT 6,H (R281). -/
def execBit_6_H (s : State) : Result := bitReg 6 .h s

/-- BIT 6,L (R281). -/
def execBit_6_L (s : State) : Result := bitReg 6 .l s

/-- BIT 6,(HL) (R282). -/
def execBit_6_AtHL (s : State) : Result := bitMem 6 s

/-- BIT 6,A (R281). -/
def execBit_6_A (s : State) : Result := bitReg 6 .a s

/-- BIT 7,B (R281). -/
def execBit_7_B (s : State) : Result := bitReg 7 .b s

/-- BIT 7,C (R281). -/
def execBit_7_C (s : State) : Result := bitReg 7 .c s

/-- BIT 7,D (R281). -/
def execBit_7_D (s : State) : Result := bitReg 7 .d s

/-- BIT 7,E (R281). -/
def execBit_7_E (s : State) : Result := bitReg 7 .e s

/-- BIT 7,H (R281). -/
def execBit_7_H (s : State) : Result := bitReg 7 .h s

/-- BIT 7,L (R281). -/
def execBit_7_L (s : State) : Result := bitReg 7 .l s

/-- BIT 7,(HL) (R282). -/
def execBit_7_AtHL (s : State) : Result := bitMem 7 s

/-- BIT 7,A (R281). -/
def execBit_7_A (s : State) : Result := bitReg 7 .a s

/-- RES 0,B (R283). -/
def execRes_0_B (s : State) : Result := resReg 0 .b s

/-- RES 0,C (R283). -/
def execRes_0_C (s : State) : Result := resReg 0 .c s

/-- RES 0,D (R283). -/
def execRes_0_D (s : State) : Result := resReg 0 .d s

/-- RES 0,E (R283). -/
def execRes_0_E (s : State) : Result := resReg 0 .e s

/-- RES 0,H (R283). -/
def execRes_0_H (s : State) : Result := resReg 0 .h s

/-- RES 0,L (R283). -/
def execRes_0_L (s : State) : Result := resReg 0 .l s

/-- RES 0,(HL) (R284). -/
def execRes_0_AtHL (s : State) : Result := resMem 0 s

/-- RES 0,A (R283). -/
def execRes_0_A (s : State) : Result := resReg 0 .a s

/-- RES 1,B (R283). -/
def execRes_1_B (s : State) : Result := resReg 1 .b s

/-- RES 1,C (R283). -/
def execRes_1_C (s : State) : Result := resReg 1 .c s

/-- RES 1,D (R283). -/
def execRes_1_D (s : State) : Result := resReg 1 .d s

/-- RES 1,E (R283). -/
def execRes_1_E (s : State) : Result := resReg 1 .e s

/-- RES 1,H (R283). -/
def execRes_1_H (s : State) : Result := resReg 1 .h s

/-- RES 1,L (R283). -/
def execRes_1_L (s : State) : Result := resReg 1 .l s

/-- RES 1,(HL) (R284). -/
def execRes_1_AtHL (s : State) : Result := resMem 1 s

/-- RES 1,A (R283). -/
def execRes_1_A (s : State) : Result := resReg 1 .a s

/-- RES 2,B (R283). -/
def execRes_2_B (s : State) : Result := resReg 2 .b s

/-- RES 2,C (R283). -/
def execRes_2_C (s : State) : Result := resReg 2 .c s

/-- RES 2,D (R283). -/
def execRes_2_D (s : State) : Result := resReg 2 .d s

/-- RES 2,E (R283). -/
def execRes_2_E (s : State) : Result := resReg 2 .e s

/-- RES 2,H (R283). -/
def execRes_2_H (s : State) : Result := resReg 2 .h s

/-- RES 2,L (R283). -/
def execRes_2_L (s : State) : Result := resReg 2 .l s

/-- RES 2,(HL) (R284). -/
def execRes_2_AtHL (s : State) : Result := resMem 2 s

/-- RES 2,A (R283). -/
def execRes_2_A (s : State) : Result := resReg 2 .a s

/-- RES 3,B (R283). -/
def execRes_3_B (s : State) : Result := resReg 3 .b s

/-- RES 3,C (R283). -/
def execRes_3_C (s : State) : Result := resReg 3 .c s

/-- RES 3,D (R283). -/
def execRes_3_D (s : State) : Result := resReg 3 .d s

/-- RES 3,E (R283). -/
def execRes_3_E (s : State) : Result := resReg 3 .e s

/-- RES 3,H (R283). -/
def execRes_3_H (s : State) : Result := resReg 3 .h s

/-- RES 3,L (R283). -/
def execRes_3_L (s : State) : Result := resReg 3 .l s

/-- RES 3,(HL) (R284). -/
def execRes_3_AtHL (s : State) : Result := resMem 3 s

/-- RES 3,A (R283). -/
def execRes_3_A (s : State) : Result := resReg 3 .a s

/-- RES 4,B (R283). -/
def execRes_4_B (s : State) : Result := resReg 4 .b s

/-- RES 4,C (R283). -/
def execRes_4_C (s : State) : Result := resReg 4 .c s

/-- RES 4,D (R283). -/
def execRes_4_D (s : State) : Result := resReg 4 .d s

/-- RES 4,E (R283). -/
def execRes_4_E (s : State) : Result := resReg 4 .e s

/-- RES 4,H (R283). -/
def execRes_4_H (s : State) : Result := resReg 4 .h s

/-- RES 4,L (R283). -/
def execRes_4_L (s : State) : Result := resReg 4 .l s

/-- RES 4,(HL) (R284). -/
def execRes_4_AtHL (s : State) : Result := resMem 4 s

/-- RES 4,A (R283). -/
def execRes_4_A (s : State) : Result := resReg 4 .a s

/-- RES 5,B (R283). -/
def execRes_5_B (s : State) : Result := resReg 5 .b s

/-- RES 5,C (R283). -/
def execRes_5_C (s : State) : Result := resReg 5 .c s

/-- RES 5,D (R283). -/
def execRes_5_D (s : State) : Result := resReg 5 .d s

/-- RES 5,E (R283). -/
def execRes_5_E (s : State) : Result := resReg 5 .e s

/-- RES 5,H (R283). -/
def execRes_5_H (s : State) : Result := resReg 5 .h s

/-- RES 5,L (R283). -/
def execRes_5_L (s : State) : Result := resReg 5 .l s

/-- RES 5,(HL) (R284). -/
def execRes_5_AtHL (s : State) : Result := resMem 5 s

/-- RES 5,A (R283). -/
def execRes_5_A (s : State) : Result := resReg 5 .a s

/-- RES 6,B (R283). -/
def execRes_6_B (s : State) : Result := resReg 6 .b s

/-- RES 6,C (R283). -/
def execRes_6_C (s : State) : Result := resReg 6 .c s

/-- RES 6,D (R283). -/
def execRes_6_D (s : State) : Result := resReg 6 .d s

/-- RES 6,E (R283). -/
def execRes_6_E (s : State) : Result := resReg 6 .e s

/-- RES 6,H (R283). -/
def execRes_6_H (s : State) : Result := resReg 6 .h s

/-- RES 6,L (R283). -/
def execRes_6_L (s : State) : Result := resReg 6 .l s

/-- RES 6,(HL) (R284). -/
def execRes_6_AtHL (s : State) : Result := resMem 6 s

/-- RES 6,A (R283). -/
def execRes_6_A (s : State) : Result := resReg 6 .a s

/-- RES 7,B (R283). -/
def execRes_7_B (s : State) : Result := resReg 7 .b s

/-- RES 7,C (R283). -/
def execRes_7_C (s : State) : Result := resReg 7 .c s

/-- RES 7,D (R283). -/
def execRes_7_D (s : State) : Result := resReg 7 .d s

/-- RES 7,E (R283). -/
def execRes_7_E (s : State) : Result := resReg 7 .e s

/-- RES 7,H (R283). -/
def execRes_7_H (s : State) : Result := resReg 7 .h s

/-- RES 7,L (R283). -/
def execRes_7_L (s : State) : Result := resReg 7 .l s

/-- RES 7,(HL) (R284). -/
def execRes_7_AtHL (s : State) : Result := resMem 7 s

/-- RES 7,A (R283). -/
def execRes_7_A (s : State) : Result := resReg 7 .a s

/-- SET 0,B (R285). -/
def execSet_0_B (s : State) : Result := setReg8 0 .b s

/-- SET 0,C (R285). -/
def execSet_0_C (s : State) : Result := setReg8 0 .c s

/-- SET 0,D (R285). -/
def execSet_0_D (s : State) : Result := setReg8 0 .d s

/-- SET 0,E (R285). -/
def execSet_0_E (s : State) : Result := setReg8 0 .e s

/-- SET 0,H (R285). -/
def execSet_0_H (s : State) : Result := setReg8 0 .h s

/-- SET 0,L (R285). -/
def execSet_0_L (s : State) : Result := setReg8 0 .l s

/-- SET 0,(HL) (R286). -/
def execSet_0_AtHL (s : State) : Result := setMem 0 s

/-- SET 0,A (R285). -/
def execSet_0_A (s : State) : Result := setReg8 0 .a s

/-- SET 1,B (R285). -/
def execSet_1_B (s : State) : Result := setReg8 1 .b s

/-- SET 1,C (R285). -/
def execSet_1_C (s : State) : Result := setReg8 1 .c s

/-- SET 1,D (R285). -/
def execSet_1_D (s : State) : Result := setReg8 1 .d s

/-- SET 1,E (R285). -/
def execSet_1_E (s : State) : Result := setReg8 1 .e s

/-- SET 1,H (R285). -/
def execSet_1_H (s : State) : Result := setReg8 1 .h s

/-- SET 1,L (R285). -/
def execSet_1_L (s : State) : Result := setReg8 1 .l s

/-- SET 1,(HL) (R286). -/
def execSet_1_AtHL (s : State) : Result := setMem 1 s

/-- SET 1,A (R285). -/
def execSet_1_A (s : State) : Result := setReg8 1 .a s

/-- SET 2,B (R285). -/
def execSet_2_B (s : State) : Result := setReg8 2 .b s

/-- SET 2,C (R285). -/
def execSet_2_C (s : State) : Result := setReg8 2 .c s

/-- SET 2,D (R285). -/
def execSet_2_D (s : State) : Result := setReg8 2 .d s

/-- SET 2,E (R285). -/
def execSet_2_E (s : State) : Result := setReg8 2 .e s

/-- SET 2,H (R285). -/
def execSet_2_H (s : State) : Result := setReg8 2 .h s

/-- SET 2,L (R285). -/
def execSet_2_L (s : State) : Result := setReg8 2 .l s

/-- SET 2,(HL) (R286). -/
def execSet_2_AtHL (s : State) : Result := setMem 2 s

/-- SET 2,A (R285). -/
def execSet_2_A (s : State) : Result := setReg8 2 .a s

/-- SET 3,B (R285). -/
def execSet_3_B (s : State) : Result := setReg8 3 .b s

/-- SET 3,C (R285). -/
def execSet_3_C (s : State) : Result := setReg8 3 .c s

/-- SET 3,D (R285). -/
def execSet_3_D (s : State) : Result := setReg8 3 .d s

/-- SET 3,E (R285). -/
def execSet_3_E (s : State) : Result := setReg8 3 .e s

/-- SET 3,H (R285). -/
def execSet_3_H (s : State) : Result := setReg8 3 .h s

/-- SET 3,L (R285). -/
def execSet_3_L (s : State) : Result := setReg8 3 .l s

/-- SET 3,(HL) (R286). -/
def execSet_3_AtHL (s : State) : Result := setMem 3 s

/-- SET 3,A (R285). -/
def execSet_3_A (s : State) : Result := setReg8 3 .a s

/-- SET 4,B (R285). -/
def execSet_4_B (s : State) : Result := setReg8 4 .b s

/-- SET 4,C (R285). -/
def execSet_4_C (s : State) : Result := setReg8 4 .c s

/-- SET 4,D (R285). -/
def execSet_4_D (s : State) : Result := setReg8 4 .d s

/-- SET 4,E (R285). -/
def execSet_4_E (s : State) : Result := setReg8 4 .e s

/-- SET 4,H (R285). -/
def execSet_4_H (s : State) : Result := setReg8 4 .h s

/-- SET 4,L (R285). -/
def execSet_4_L (s : State) : Result := setReg8 4 .l s

/-- SET 4,(HL) (R286). -/
def execSet_4_AtHL (s : State) : Result := setMem 4 s

/-- SET 4,A (R285). -/
def execSet_4_A (s : State) : Result := setReg8 4 .a s

/-- SET 5,B (R285). -/
def execSet_5_B (s : State) : Result := setReg8 5 .b s

/-- SET 5,C (R285). -/
def execSet_5_C (s : State) : Result := setReg8 5 .c s

/-- SET 5,D (R285). -/
def execSet_5_D (s : State) : Result := setReg8 5 .d s

/-- SET 5,E (R285). -/
def execSet_5_E (s : State) : Result := setReg8 5 .e s

/-- SET 5,H (R285). -/
def execSet_5_H (s : State) : Result := setReg8 5 .h s

/-- SET 5,L (R285). -/
def execSet_5_L (s : State) : Result := setReg8 5 .l s

/-- SET 5,(HL) (R286). -/
def execSet_5_AtHL (s : State) : Result := setMem 5 s

/-- SET 5,A (R285). -/
def execSet_5_A (s : State) : Result := setReg8 5 .a s

/-- SET 6,B (R285). -/
def execSet_6_B (s : State) : Result := setReg8 6 .b s

/-- SET 6,C (R285). -/
def execSet_6_C (s : State) : Result := setReg8 6 .c s

/-- SET 6,D (R285). -/
def execSet_6_D (s : State) : Result := setReg8 6 .d s

/-- SET 6,E (R285). -/
def execSet_6_E (s : State) : Result := setReg8 6 .e s

/-- SET 6,H (R285). -/
def execSet_6_H (s : State) : Result := setReg8 6 .h s

/-- SET 6,L (R285). -/
def execSet_6_L (s : State) : Result := setReg8 6 .l s

/-- SET 6,(HL) (R286). -/
def execSet_6_AtHL (s : State) : Result := setMem 6 s

/-- SET 6,A (R285). -/
def execSet_6_A (s : State) : Result := setReg8 6 .a s

/-- SET 7,B (R285). -/
def execSet_7_B (s : State) : Result := setReg8 7 .b s

/-- SET 7,C (R285). -/
def execSet_7_C (s : State) : Result := setReg8 7 .c s

/-- SET 7,D (R285). -/
def execSet_7_D (s : State) : Result := setReg8 7 .d s

/-- SET 7,E (R285). -/
def execSet_7_E (s : State) : Result := setReg8 7 .e s

/-- SET 7,H (R285). -/
def execSet_7_H (s : State) : Result := setReg8 7 .h s

/-- SET 7,L (R285). -/
def execSet_7_L (s : State) : Result := setReg8 7 .l s

/-- SET 7,(HL) (R286). -/
def execSet_7_AtHL (s : State) : Result := setMem 7 s

/-- SET 7,A (R285). -/
def execSet_7_A (s : State) : Result := setReg8 7 .a s

end Sys2Proof.Machine
end

