-- ==== Sys2Proof/Machine/Control.lean ====
section
/-! DEFINITION. The meanings of control transfer (45_control.md, R300 to R311). On entry PC is past the
instruction's last byte (R16, R109), so it is the return address and the base of a relative jump. -/

namespace Sys2Proof.Machine

/-- JP cc,nn (R302): 16 cycles taken, 12 not. -/
def jumpIf (cc : Cond) (nn : Word) (s : State) : Result :=
  if s.cond cc then .next ((s.setPc nn).returns 16) else .next (s.returns 12)

/-- JR cc,e (R305): 12 cycles taken, 8 not. -/
def jumpRelIf (cc : Cond) (e : Byte) (s : State) : Result :=
  if s.cond cc then .next ((s.jumpRelative e).returns 12) else .next (s.returns 8)

/-- CALL nn (R306). -/
def callTo (nn : Word) (s : State) : Result := .next (((s.push16 s.pc).setPc nn).returns 24)

/-- CALL cc,nn (R307): 24 cycles taken, 12 not; not taken touches neither memory nor SP. -/
def callIf (cc : Cond) (nn : Word) (s : State) : Result :=
  if s.cond cc then callTo nn s else .next (s.returns 12)

/-- RET cc (R309): 20 cycles taken, 8 not. -/
def retIf (cc : Cond) (s : State) : Result :=
  if s.cond cc then .next ((s.popped.setPc s.popWord).returns 20) else .next (s.returns 8)

/-- RST t (R310), with t = 8*y. -/
def restart (y : Fin 8) (s : State) : Result :=
  .next (((s.push16 s.pc).setPc (BitVec.ofNat 16 (8 * y.val))).returns 16)

/-- JR e (R304). -/
def execJr_e (e : Byte) (s : State) : Result := .next ((s.jumpRelative e).returns 12)

/-- JR NZ,e (R305). -/
def execJr_NZ_e (e : Byte) (s : State) : Result := jumpRelIf .nz e s

/-- JR Z,e (R305). -/
def execJr_Z_e (e : Byte) (s : State) : Result := jumpRelIf .z e s

/-- JR NC,e (R305). -/
def execJr_NC_e (e : Byte) (s : State) : Result := jumpRelIf .nc e s

/-- JR C,e (R305). -/
def execJr_C_e (e : Byte) (s : State) : Result := jumpRelIf .c e s

/-- RET NZ (R309). -/
def execRet_NZ (s : State) : Result := retIf .nz s

/-- JP NZ,nn (R302). -/
def execJp_NZ_nn (nn : Word) (s : State) : Result := jumpIf .nz nn s

/-- JP nn (R301). -/
def execJp_nn (nn : Word) (s : State) : Result := .next ((s.setPc nn).returns 16)

/-- CALL NZ,nn (R307). -/
def execCall_NZ_nn (nn : Word) (s : State) : Result := callIf .nz nn s

/-- RST 0x00 (R310). -/
def execRst_00 (s : State) : Result := restart 0 s

/-- RET Z (R309). -/
def execRet_Z (s : State) : Result := retIf .z s

/-- RET (R308). -/
def execRet (s : State) : Result := .next ((s.popped.setPc s.popWord).returns 16)

/-- JP Z,nn (R302). -/
def execJp_Z_nn (nn : Word) (s : State) : Result := jumpIf .z nn s

/-- CALL Z,nn (R307). -/
def execCall_Z_nn (nn : Word) (s : State) : Result := callIf .z nn s

/-- CALL nn (R306). -/
def execCall_nn (nn : Word) (s : State) : Result := callTo nn s

/-- RST 0x08 (R310). -/
def execRst_08 (s : State) : Result := restart 1 s

/-- RET NC (R309). -/
def execRet_NC (s : State) : Result := retIf .nc s

/-- JP NC,nn (R302). -/
def execJp_NC_nn (nn : Word) (s : State) : Result := jumpIf .nc nn s

/-- CALL NC,nn (R307). -/
def execCall_NC_nn (nn : Word) (s : State) : Result := callIf .nc nn s

/-- RST 0x10 (R310). -/
def execRst_10 (s : State) : Result := restart 2 s

/-- RET C (R309). -/
def execRet_C (s : State) : Result := retIf .c s

/-- RETI (R311). -/
def execReti (s : State) : Result := .next (((s.popped.setPc s.popWord).scheduleImeTimed true).returns 16)

/-- JP C,nn (R302). -/
def execJp_C_nn (nn : Word) (s : State) : Result := jumpIf .c nn s

/-- CALL C,nn (R307). -/
def execCall_C_nn (nn : Word) (s : State) : Result := callIf .c nn s

/-- RST 0x18 (R310). -/
def execRst_18 (s : State) : Result := restart 3 s

/-- RST 0x20 (R310). -/
def execRst_20 (s : State) : Result := restart 4 s

/-- JP HL (R303). -/
def execJp_HL (s : State) : Result := .next ((s.setPc s.hl).returns 4)

/-- RST 0x28 (R310). -/
def execRst_28 (s : State) : Result := restart 5 s

/-- RST 0x30 (R310). -/
def execRst_30 (s : State) : Result := restart 6 s

/-- RST 0x38 (R310). -/
def execRst_38 (s : State) : Result := restart 7 s

end Sys2Proof.Machine
end

