-- ==== Sys2Proof/Machine/Load16.lean ====
section
/-! DEFINITION. The meanings of the 16-bit loads and of the stack (41_load16.md, R180 to R185). -/

namespace Sys2Proof.Machine

/-- LD rr,nn (R180). -/
def loadPair (p : Pair) (nn : Word) (s : State) : Result := .next ((s.setPair p nn).returns 12)

/-- LD (nn),SP (R181): the low byte first. -/
def storeSp (nn : Word) (s : State) : Result :=
  .next (((s.memWrite nn (lo8 s.sp)).memWrite (nn + 1) (hi8 s.sp)).returns 20)

/-- PUSH qq (R184). -/
def pushPair (q : StackPair) (s : State) : Result := .next ((s.push16 (s.stackPair q)).returns 16)

/-- POP qq (R185). -/
def popPair (q : StackPair) (s : State) : Result := .next ((s.popped.setStackPair q s.popWord).returns 12)

/-- LD BC,nn (R180). -/
def execLd_BC_nn (nn : Word) (s : State) : Result := loadPair .bc nn s

/-- LD (nn),SP (R181). -/
def execLd_AtNN_SP (nn : Word) (s : State) : Result := storeSp nn s

/-- LD DE,nn (R180). -/
def execLd_DE_nn (nn : Word) (s : State) : Result := loadPair .de nn s

/-- LD HL,nn (R180). -/
def execLd_HL_nn (nn : Word) (s : State) : Result := loadPair .hl nn s

/-- LD SP,nn (R180). -/
def execLd_SP_nn (nn : Word) (s : State) : Result := loadPair .sp nn s

/-- POP BC (R185). -/
def execPop_BC (s : State) : Result := popPair .bc s

/-- PUSH BC (R184). -/
def execPush_BC (s : State) : Result := pushPair .bc s

/-- POP DE (R185). -/
def execPop_DE (s : State) : Result := popPair .de s

/-- PUSH DE (R184). -/
def execPush_DE (s : State) : Result := pushPair .de s

/-- POP HL (R185). -/
def execPop_HL (s : State) : Result := popPair .hl s

/-- PUSH HL (R184). -/
def execPush_HL (s : State) : Result := pushPair .hl s

/-- POP AF (R185). -/
def execPop_AF (s : State) : Result := popPair .af s

/-- PUSH AF (R184). -/
def execPush_AF (s : State) : Result := pushPair .af s

/-- LD HL,SP+e (R183). -/
def execLd_HL_SPe (e : Byte) (s : State) : Result :=
  .next (((s.setHl (spPlusE s.sp e)).setFlags (spPlusEFlags s.sp e)).returns 12)

/-- LD SP,HL (R182). -/
def execLd_SP_HL (s : State) : Result := .next ({ s with sp := s.hl }.returns 8)

end Sys2Proof.Machine
end

