-- ==== Sys2Proof/Machine/Load8.lean ====
section
/-! DEFINITION. The meanings of the 8-bit loads (40_load8.md, R140 to R161). Each instruction is one line over
a shared operation; no load changes a flag. -/

namespace Sys2Proof.Machine

/-- LD r,r' (R140). -/
def loadReg (r r2 : Reg8) (s : State) : Result := .next ((s.setReg r (s.reg r2)).returns 4)

/-- LD r,n (R141). -/
def loadImm (r : Reg8) (n : Byte) (s : State) : Result := .next ((s.setReg r n).returns 8)

/-- A load from memory (R142, R145, R146, R149, R154, R156): the byte at `a`, taken before the write. -/
def loadFrom (r : Reg8) (a : Word) (count : Nat) (s : State) : Result :=
  .next ((s.setReg r (s.memRead a)).returns count)

/-- A store to memory (R143, R144, R147, R148, R150, R155, R157). -/
def storeTo (a : Word) (v : Byte) (count : Nat) (s : State) : Result :=
  .next ((s.memWrite a v).returns count)

/-- A store of A at HL, after which HL is that of `t` (R158, R159): `t` is `s` with HL adjusted (R24). -/
def storeAdjusting (t s : State) : Result := .next ((t.memWrite s.hl s.a).returns 8)

/-- A load of A from HL, after which HL is that of `t` (R160, R161). -/
def loadAdjusting (t s : State) : Result := .next ((t.setReg .a (s.memRead s.hl)).returns 8)

/-- LD (BC),A (R147). -/
def execLd_AtBC_A (s : State) : Result := storeTo s.bc s.a 8 s

/-- LD B,n (R141). -/
def execLd_B_n (n : Byte) (s : State) : Result := loadImm .b n s

/-- LD A,(BC) (R145). -/
def execLd_A_AtBC (s : State) : Result := loadFrom .a s.bc 8 s

/-- LD C,n (R141). -/
def execLd_C_n (n : Byte) (s : State) : Result := loadImm .c n s

/-- LD (DE),A (R148). -/
def execLd_AtDE_A (s : State) : Result := storeTo s.de s.a 8 s

/-- LD D,n (R141). -/
def execLd_D_n (n : Byte) (s : State) : Result := loadImm .d n s

/-- LD A,(DE) (R146). -/
def execLd_A_AtDE (s : State) : Result := loadFrom .a s.de 8 s

/-- LD E,n (R141). -/
def execLd_E_n (n : Byte) (s : State) : Result := loadImm .e n s

/-- LD (HL+),A (R158). -/
def execLd_AtHLI_A (s : State) : Result := storeAdjusting s.hlIncremented s

/-- LD H,n (R141). -/
def execLd_H_n (n : Byte) (s : State) : Result := loadImm .h n s

/-- LD A,(HL+) (R160). -/
def execLd_A_AtHLI (s : State) : Result := loadAdjusting s.hlIncremented s

/-- LD L,n (R141). -/
def execLd_L_n (n : Byte) (s : State) : Result := loadImm .l n s

/-- LD (HL-),A (R159). -/
def execLd_AtHLD_A (s : State) : Result := storeAdjusting s.hlDecremented s

/-- LD (HL),n (R144). -/
def execLd_AtHL_n (n : Byte) (s : State) : Result := storeTo s.hl n 12 s

/-- LD A,(HL-) (R161). -/
def execLd_A_AtHLD (s : State) : Result := loadAdjusting s.hlDecremented s

/-- LD A,n (R141). -/
def execLd_A_n (n : Byte) (s : State) : Result := loadImm .a n s

/-- LD B,B (R140). -/
def execLd_B_B (s : State) : Result := loadReg .b .b s

/-- LD B,C (R140). -/
def execLd_B_C (s : State) : Result := loadReg .b .c s

/-- LD B,D (R140). -/
def execLd_B_D (s : State) : Result := loadReg .b .d s

/-- LD B,E (R140). -/
def execLd_B_E (s : State) : Result := loadReg .b .e s

/-- LD B,H (R140). -/
def execLd_B_H (s : State) : Result := loadReg .b .h s

/-- LD B,L (R140). -/
def execLd_B_L (s : State) : Result := loadReg .b .l s

/-- LD B,(HL) (R142). -/
def execLd_B_AtHL (s : State) : Result := loadFrom .b s.hl 8 s

/-- LD B,A (R140). -/
def execLd_B_A (s : State) : Result := loadReg .b .a s

/-- LD C,B (R140). -/
def execLd_C_B (s : State) : Result := loadReg .c .b s

/-- LD C,C (R140). -/
def execLd_C_C (s : State) : Result := loadReg .c .c s

/-- LD C,D (R140). -/
def execLd_C_D (s : State) : Result := loadReg .c .d s

/-- LD C,E (R140). -/
def execLd_C_E (s : State) : Result := loadReg .c .e s

/-- LD C,H (R140). -/
def execLd_C_H (s : State) : Result := loadReg .c .h s

/-- LD C,L (R140). -/
def execLd_C_L (s : State) : Result := loadReg .c .l s

/-- LD C,(HL) (R142). -/
def execLd_C_AtHL (s : State) : Result := loadFrom .c s.hl 8 s

/-- LD C,A (R140). -/
def execLd_C_A (s : State) : Result := loadReg .c .a s

/-- LD D,B (R140). -/
def execLd_D_B (s : State) : Result := loadReg .d .b s

/-- LD D,C (R140). -/
def execLd_D_C (s : State) : Result := loadReg .d .c s

/-- LD D,D (R140). -/
def execLd_D_D (s : State) : Result := loadReg .d .d s

/-- LD D,E (R140). -/
def execLd_D_E (s : State) : Result := loadReg .d .e s

/-- LD D,H (R140). -/
def execLd_D_H (s : State) : Result := loadReg .d .h s

/-- LD D,L (R140). -/
def execLd_D_L (s : State) : Result := loadReg .d .l s

/-- LD D,(HL) (R142). -/
def execLd_D_AtHL (s : State) : Result := loadFrom .d s.hl 8 s

/-- LD D,A (R140). -/
def execLd_D_A (s : State) : Result := loadReg .d .a s

/-- LD E,B (R140). -/
def execLd_E_B (s : State) : Result := loadReg .e .b s

/-- LD E,C (R140). -/
def execLd_E_C (s : State) : Result := loadReg .e .c s

/-- LD E,D (R140). -/
def execLd_E_D (s : State) : Result := loadReg .e .d s

/-- LD E,E (R140). -/
def execLd_E_E (s : State) : Result := loadReg .e .e s

/-- LD E,H (R140). -/
def execLd_E_H (s : State) : Result := loadReg .e .h s

/-- LD E,L (R140). -/
def execLd_E_L (s : State) : Result := loadReg .e .l s

/-- LD E,(HL) (R142). -/
def execLd_E_AtHL (s : State) : Result := loadFrom .e s.hl 8 s

/-- LD E,A (R140). -/
def execLd_E_A (s : State) : Result := loadReg .e .a s

/-- LD H,B (R140). -/
def execLd_H_B (s : State) : Result := loadReg .h .b s

/-- LD H,C (R140). -/
def execLd_H_C (s : State) : Result := loadReg .h .c s

/-- LD H,D (R140). -/
def execLd_H_D (s : State) : Result := loadReg .h .d s

/-- LD H,E (R140). -/
def execLd_H_E (s : State) : Result := loadReg .h .e s

/-- LD H,H (R140). -/
def execLd_H_H (s : State) : Result := loadReg .h .h s

/-- LD H,L (R140). -/
def execLd_H_L (s : State) : Result := loadReg .h .l s

/-- LD H,(HL) (R142). -/
def execLd_H_AtHL (s : State) : Result := loadFrom .h s.hl 8 s

/-- LD H,A (R140). -/
def execLd_H_A (s : State) : Result := loadReg .h .a s

/-- LD L,B (R140). -/
def execLd_L_B (s : State) : Result := loadReg .l .b s

/-- LD L,C (R140). -/
def execLd_L_C (s : State) : Result := loadReg .l .c s

/-- LD L,D (R140). -/
def execLd_L_D (s : State) : Result := loadReg .l .d s

/-- LD L,E (R140). -/
def execLd_L_E (s : State) : Result := loadReg .l .e s

/-- LD L,H (R140). -/
def execLd_L_H (s : State) : Result := loadReg .l .h s

/-- LD L,L (R140). -/
def execLd_L_L (s : State) : Result := loadReg .l .l s

/-- LD L,(HL) (R142). -/
def execLd_L_AtHL (s : State) : Result := loadFrom .l s.hl 8 s

/-- LD L,A (R140). -/
def execLd_L_A (s : State) : Result := loadReg .l .a s

/-- LD (HL),B (R143). -/
def execLd_AtHL_B (s : State) : Result := storeTo s.hl (s.reg .b) 8 s

/-- LD (HL),C (R143). -/
def execLd_AtHL_C (s : State) : Result := storeTo s.hl (s.reg .c) 8 s

/-- LD (HL),D (R143). -/
def execLd_AtHL_D (s : State) : Result := storeTo s.hl (s.reg .d) 8 s

/-- LD (HL),E (R143). -/
def execLd_AtHL_E (s : State) : Result := storeTo s.hl (s.reg .e) 8 s

/-- LD (HL),H (R143). -/
def execLd_AtHL_H (s : State) : Result := storeTo s.hl (s.reg .h) 8 s

/-- LD (HL),L (R143). -/
def execLd_AtHL_L (s : State) : Result := storeTo s.hl (s.reg .l) 8 s

/-- LD (HL),A (R143). -/
def execLd_AtHL_A (s : State) : Result := storeTo s.hl (s.reg .a) 8 s

/-- LD A,B (R140). -/
def execLd_A_B (s : State) : Result := loadReg .a .b s

/-- LD A,C (R140). -/
def execLd_A_C (s : State) : Result := loadReg .a .c s

/-- LD A,D (R140). -/
def execLd_A_D (s : State) : Result := loadReg .a .d s

/-- LD A,E (R140). -/
def execLd_A_E (s : State) : Result := loadReg .a .e s

/-- LD A,H (R140). -/
def execLd_A_H (s : State) : Result := loadReg .a .h s

/-- LD A,L (R140). -/
def execLd_A_L (s : State) : Result := loadReg .a .l s

/-- LD A,(HL) (R142). -/
def execLd_A_AtHL (s : State) : Result := loadFrom .a s.hl 8 s

/-- LD A,A (R140). -/
def execLd_A_A (s : State) : Result := loadReg .a .a s

/-- LDH (n),A (R155). -/
def execLdh_AtN_A (n : Byte) (s : State) : Result := storeTo (highPage n) s.a 12 s

/-- LD (C),A (R157). -/
def execLd_AtC_A (s : State) : Result := storeTo (highPage s.c) s.a 8 s

/-- LD (nn),A (R150). -/
def execLd_AtNN_A (nn : Word) (s : State) : Result := storeTo nn s.a 16 s

/-- LDH A,(n) (R154). -/
def execLdh_A_AtN (n : Byte) (s : State) : Result := loadFrom .a (highPage n) 12 s

/-- LD A,(C) (R156). -/
def execLd_A_AtC (s : State) : Result := loadFrom .a (highPage s.c) 8 s

/-- LD A,(nn) (R149). -/
def execLd_A_AtNN (nn : Word) (s : State) : Result := loadFrom .a nn 16 s

end Sys2Proof.Machine
end

