-- ==== Sys2Proof/Machine/System.lean ====
section
/-! DEFINITION. The meanings of the system and control instructions (46_system.md, R340 to R346). -/

namespace Sys2Proof.Machine

/-- HALT and STOP both set the one halted flag (R341, R342). -/
def enterHalt (s : State) : Result := .next ({ s with halted := true }.returns 4)

/-- An unassigned byte (R346, R401): the error is raised with the byte and the address it was fetched from,
which is one below PC, since the fetch has advanced it. The next state is the fault state of R400. -/
def raiseUnsupported (op : Byte) (s : State) : Result :=
  .next (s.raise (.unsupportedOpcode op false (s.pc - 1)))

/-- NOP (R340). -/
def execNop (s : State) : Result := .next (s.returns 4)

/-- STOP (R342). -/
def execStop (_x : Byte) (s : State) : Result := enterHalt s

/-- HALT (R341). -/
def execHalt (s : State) : Result := enterHalt s

/-- DI (R343). -/
def execDi (s : State) : Result := .next ((s.scheduleImeTimed false).returns 4)

/-- EI (R344). -/
def execEi (s : State) : Result := .next ((s.scheduleIme true).returns 4)

/-- the byte 0xD3 (R346). -/
def execUnsupportedD3 (s : State) : Result := raiseUnsupported 0xD3 s

/-- the byte 0xDB (R346). -/
def execUnsupportedDB (s : State) : Result := raiseUnsupported 0xDB s

/-- the byte 0xDD (R346). -/
def execUnsupportedDD (s : State) : Result := raiseUnsupported 0xDD s

/-- the byte 0xE3 (R346). -/
def execUnsupportedE3 (s : State) : Result := raiseUnsupported 0xE3 s

/-- the byte 0xE4 (R346). -/
def execUnsupportedE4 (s : State) : Result := raiseUnsupported 0xE4 s

/-- the byte 0xEB (R346). -/
def execUnsupportedEB (s : State) : Result := raiseUnsupported 0xEB s

/-- the byte 0xEC (R346). -/
def execUnsupportedEC (s : State) : Result := raiseUnsupported 0xEC s

/-- the byte 0xED (R346). -/
def execUnsupportedED (s : State) : Result := raiseUnsupported 0xED s

/-- the byte 0xF4 (R346). -/
def execUnsupportedF4 (s : State) : Result := raiseUnsupported 0xF4 s

/-- the byte 0xFC (R346). -/
def execUnsupportedFC (s : State) : Result := raiseUnsupported 0xFC s

/-- the byte 0xFD (R346). -/
def execUnsupportedFD (s : State) : Result := raiseUnsupported 0xFD s

end Sys2Proof.Machine
end

