-- ==== Sys2Proof/Machine/Cpu.lean ====
section
/-! DEFINITION. The CPU step (R415): the halt check, the optional interrupt, fetch and decode, and the end of the
step. The bytes of an instruction are all fetched before its effect (R78, R109), so they are read at
once here; reads have no side effect (R63). -/

namespace Sys2Proof.Machine

/-- The instruction that stands at PC (R100); the byte after 0xFFFF is at 0x0000 (R74). -/
def State.fetched (s : State) : Instr :=
  decodeBytes (s.memRead s.pc) (s.memRead (s.pc + 1)) (s.memRead (s.pc + 2))

/-- PC is past the fetched instruction's bytes (R16, R26). -/
def State.pastFetched (s : State) : State := s.setPc (s.pc + BitVec.ofNat 16 (opLength (s.memRead s.pc)))

/-- What ends a step that ran an instruction: `end_step()`, unless the step faulted (R411, R415). -/
def State.afterInstruction (s : State) : State :=
  match s.fault with
  | none => s.endStep
  | some _ => s

/-- `decode_and_execute()` and the end of the step (R415). -/
def State.runInstruction (s : State) : Result :=
  match exec s.fetched s.pastFetched with
  | .next t => .next t.afterInstruction
  | .fault r => .fault r
  | .refused r => .refused r

/-- Whether the step takes an interrupt (R415): only with `IRQ_DISPATCH`, `ime` set and a request pending. -/
def State.dispatches (s : State) : Bool := s.cfg.irqDispatch && s.ime && s.pending != 0

/-- `step()` (R415), for a state without a fault. -/
def State.cpuStep (s0 : State) : Result :=
  let s := { s0 with wroteSchedule := false }
  if s.halted && s.pending == 0 then .next (s.returns 4).endStep
  else
    let s := { s with halted := false }
    if s.dispatches then .next s.takeInterrupt.endStep else s.runInstruction

/-- Lays bytes at an address and those after it, as raw writes. -/
def State.placeBytes (s : State) (a : Word) : List Byte → State
  | [] => s
  | v :: rest => (s.rawWrite a v).placeBytes (a + 1) rest

/-- The state in which the very next transition is the CPU step that fetches and runs the instruction whose
bits are `w` (assumption 9): its bytes stand at PC, the CPU is next, running, without a fault, and takes no
interrupt. -/
def State.placeInstruction (s : State) (nbits w : Nat) : State :=
  let t := s.placeBytes s.pc (tableBytes nbits w)
  { t with phase := .cpu, halted := false, fault := none, ime := t.ime && !t.dispatches }

end Sys2Proof.Machine
end

