-- ==== Sys2Proof/Machine/Ppu.lean ====
section
/-! DEFINITION. The PPU's `draw_scanline()` (R450 to R459): sprite scan, background, the optional window and
sprite composition, LY=LYC coincidence, the optional VBlank request. It reads raw bytes and writes STAT
bit 2 and IF bits 0 and 1 alone (R459). -/

namespace Sys2Proof.Machine

/-- The raw byte at an address given as a number. -/
def State.rawAt (s : State) (a : Nat) : Byte := Memory.read s.mem a

/-- LCDC (R38). -/
def State.lcdc (s : State) : Byte := s.rawRead 0xFF40

/-- A bit as 0 or 1. -/
def bitNat (v : Byte) (k : Nat) : Nat := (v.getLsbD k).toNat

/-- The value of `SPRITE_Y_OFFSET` (R451). -/
def Config.spriteY (g : Config) : Nat :=
  match g.spriteYOffset with
  | .zero => 0
  | .sixteen => 16

/-- The shade that a palette gives a colour index: bits 2i+1..2i (R44, R453). -/
def shadeOf (palette : Byte) (index : Nat) : BitVec 2 := (palette >>> (2 * index)).setWidth 2

/-! ### Sprite scan (R451) -/

/-- The sprite height: 16 with the tall-sprite bit, else 8. -/
def spriteHeight (lcdc : Byte) : Nat := if lcdc.getLsbD 2 then 16 else 8

/-- OAM entry `i`: y, x, tile, attributes. -/
def State.oamEntry (s : State) (i : Nat) : Sprite where
  y := s.rawAt (0xFE00 + 4 * i)
  x := s.rawAt (0xFE01 + 4 * i)
  tileIndex := s.rawAt (0xFE02 + 4 * i)
  attributes := s.rawAt (0xFE03 + 4 * i)

/-- Whether the scan takes a sprite for a line: x is not 0, and the line is in its rows (no wrap). -/
def spriteOnLine (sp : Sprite) (line height : Nat) : Bool :=
  sp.x != 0 && decide (sp.y.toNat ≤ line ∧ line < sp.y.toNat + height)

/-- The scan over a list of entries, with room for `room` more sprites. -/
def scanEntries (s : State) (line height : Nat) : List Nat → Nat → List Sprite
  | [], _ => []
  | _ :: _, 0 => []
  | i :: rest, room + 1 =>
    if spriteOnLine (s.oamEntry i) line height then
      s.oamEntry i :: scanEntries s line height rest room
    else scanEntries s line height rest (room + 1)

/-- `sprite_scan(ly, lcdc)`: the 40 entries in order, at most ten taken. -/
def State.spriteScan (s : State) : List Sprite :=
  scanEntries s ((s.rawRead 0xFF44).toNat + Config.spriteY s.cfg) (spriteHeight s.lcdc) (List.range 40) 10

/-! ### Background (R452, R453) -/

/-- The address of a tile's data (R452): 0x8000 unsigned, or 0x9000 signed. -/
def tileBase (lcdc : Byte) (t : Byte) : Nat :=
  if lcdc.getLsbD 4 then 0x8000 + 16 * t.toNat
  else if t.toNat < 0x80 then 0x9000 + 16 * t.toNat
  else 0x8000 + 16 * t.toNat

/-- The base of a tile map, chosen by one bit of LCDC. -/
def mapBase (second : Bool) : Nat := if second then 0x9C00 else 0x9800

/-- The colour index at pixel `(px, py)` of a 256 by 256 map: bit plane bytes, MSB first. -/
def State.mapIndex (s : State) (map px py : Nat) : Nat :=
  let t := s.rawAt (map + 32 * (py / 8) + px / 8)
  let row := tileBase s.lcdc t + 2 * (py % 8)
  let k := 7 - px % 8
  2 * bitNat (s.rawAt (row + 1)) k + bitNat (s.rawAt row) k

/-- `bg_index(x, ly, lcdc)` (R452). -/
def State.bgIndex (s : State) (x : Nat) : Nat :=
  s.mapIndex (mapBase (s.lcdc.getLsbD 3)) (((s.rawRead 0xFF43).toNat + x) % 256)
    (((s.rawRead 0xFF42).toNat + (s.rawRead 0xFF44).toNat) % 256)

/-- `bg_shade(x, ly, lcdc)` (R453). -/
def State.bgShade (s : State) (x : Nat) : BitVec 2 := shadeOf (s.rawRead 0xFF47) (s.bgIndex x)

/-! ### Optional composition (R456 to R458) -/

/-- `idx(x)` of R457: background and window. -/
def State.layerIndex (s : State) (x : Nat) : Nat :=
  let ly := (s.rawRead 0xFF44).toNat
  let wy := (s.rawRead 0xFF4A).toNat
  let wx := (s.rawRead 0xFF4B).toNat
  if !s.lcdc.getLsbD 0 then 0
  else if s.lcdc.getLsbD 5 && decide (wy ≤ ly ∧ wx ≤ x + 7) then
    s.mapIndex (mapBase (s.lcdc.getLsbD 6)) (x + 7 - wx) (ly - wy)
  else s.bgIndex x

/-- Puts a sprite before the first one with a larger or equal X. -/
def insertByX (sp : Sprite) : List Sprite → List Sprite
  | [] => [sp]
  | q :: rest => if sp.x.toNat ≤ q.x.toNat then sp :: q :: rest else q :: insertByX sp rest

/-- The sprites by rising X, ties in their old order (R458). -/
def sortByX (sprites : List Sprite) : List Sprite := sprites.foldr insertByX []

/-- The sprites that cover pixel column `x`. -/
def candidates (x : Nat) (sprites : List Sprite) : List Sprite :=
  sortByX (sprites.filter (fun sp => decide (sp.x.toNat ≤ x + 8 ∧ x < sp.x.toNat)))

/-- The colour index of a sprite at pixel column `x` of the line (R458): flips and 8x16 tiles. -/
def State.spriteIndex (s : State) (x : Nat) (sp : Sprite) : Nat :=
  let height := spriteHeight s.lcdc
  let row0 := (s.rawRead 0xFF44).toNat + Config.spriteY s.cfg - sp.y.toNat
  let row := if sp.attributes.getLsbD 6 then height - 1 - row0 else row0
  let tile := if height = 16 then (sp.tileIndex &&& 0xFE).toNat else sp.tileIndex.toNat
  let address := 0x8000 + 16 * tile + 2 * row
  let col0 := x + 8 - sp.x.toNat
  let col := if sp.attributes.getLsbD 5 then 7 - col0 else col0
  2 * bitNat (s.rawAt (address + 1)) (7 - col) + bitNat (s.rawAt address) (7 - col)

/-- The shade that the candidates give a pixel, or `none` where they leave the layer's (R458). -/
def State.spriteShade (s : State) (x layer : Nat) : List Sprite → Option (BitVec 2)
  | [] => none
  | sp :: rest =>
    let oi := s.spriteIndex x sp
    if oi = 0 then s.spriteShade x layer rest
    else if sp.attributes.getLsbD 7 && decide (layer ≠ 0) then none
    else some (shadeOf (if sp.attributes.getLsbD 4 then s.rawRead 0xFF49 else s.rawRead 0xFF48) oi)

/-- A composed pixel (R457, then R458 with the OBJ enable). -/
def State.composedShade (s : State) (sprites : List Sprite) (x : Nat) : BitVec 2 :=
  let layer := s.layerIndex x
  let base := shadeOf (s.rawRead 0xFF47) layer
  if s.lcdc.getLsbD 1 then (s.spriteShade x layer (candidates x sprites)).getD base else base

/-! ### The scanline (R450) -/

/-- The row of an enabled scanline: the background, or the composition with `COMPOSE_OBJ_WIN` (R456). -/
def State.scanRow (s : State) (sprites : List Sprite) : List (BitVec 2) :=
  (List.range 160).map (fun x => if s.cfg.composeObjWin then s.composedShade sprites x else s.bgShade x)

/-- `coincidence(ly)` (R454). -/
def State.coincidence (s : State) : State :=
  if s.rawRead 0xFF44 = s.rawRead 0xFF45 then
    let s1 := s.rawWrite 0xFF41 (s.rawRead 0xFF41 ||| 0x04)
    s1.rawWrite 0xFF0F (s1.rawRead 0xFF0F ||| 0x02)
  else s.rawWrite 0xFF41 (s.rawRead 0xFF41 &&& ~~~0x04#8)

/-- The optional VBlank request (R455). -/
def State.vblank (s : State) : State :=
  if s.cfg.vblankIrq && s.rawRead 0xFF44 == 144 then s.rawWrite 0xFF0F (s.rawRead 0xFF0F ||| 0x01) else s

/-- What `draw_scanline()` returns (R450). -/
def State.drawnLine (s : State) : Scanline :=
  if s.lcdc.getLsbD 7 then ⟨s.scanRow s.spriteScan, s.spriteScan⟩ else ⟨List.replicate 160 0, []⟩

/-- The state `draw_scanline()` leaves (R450): a blank line changes nothing. -/
def State.afterDraw (s : State) : State := if s.lcdc.getLsbD 7 then s.coincidence.vblank else s

end Sys2Proof.Machine
end

