-- ==== Sys2Proof/Machine/Timer.lean ====
section
/-! DEFINITION. The memory subsystem's `tick(c)`: OAM DMA progress, the overflow reload, the div advance with
its TIMA increments, and the DIV publication (R430 to R433, R440 to R443). All accesses are raw. -/

namespace Sys2Proof.Machine

/-! ### OAM DMA, step (a) -/

/-- Copies `m` bytes, from byte `k` on, out of `src` into OAM: one raw read and one raw write each (R441). -/
def copyToOam (src : Word) : Nat → Nat → State → State
  | _, 0, s => s
  | k, m + 1, s =>
    copyToOam src (k + 1) m (s.rawWrite (0xFE00 + BitVec.ofNat 16 k) (s.rawRead (src + BitVec.ofNat 16 k)))

/-- DMA progress over `n` cycles (R441): one byte per 4 cycles until 160 have moved; cycles not yet worth a
byte are carried in the residue. -/
def State.dmaProgress (s : State) (n : Nat) : State :=
  match s.dma with
  | .inactive => s
  | .active src k res =>
    let total := res + n
    let m := min (total / 4) (160 - k)
    { copyToOam src k m s with dma := if k + m = 160 then .inactive else .active src (k + m) (total % 4) }

/-! ### Overflow reload, step (b) -/

/-- TIMA is reloaded from TMA and the timer interrupt requested, one tick after the overflow (R432). -/
def State.timerReload (s : State) : State :=
  if s.overflow then
    let s1 := s.rawWrite 0xFF05 (s.rawRead 0xFF06)
    { s1.rawWrite 0xFF0F (s1.rawRead 0xFF0F ||| 0x04) with overflow := false }
  else s

/-! ### The div advance, step (c) -/

/-- The bit of div that TAC selects (R36, R431). -/
def timerBit (tac : Byte) : Nat :=
  match (tac &&& 0x03).toNat with
  | 0 => 9
  | 1 => 3
  | 2 => 5
  | _ => 7

/-- What the div advance reads and writes: div, TIMA and the overflow flag. TAC is read once per tick (R431),
and TIMA is written back once, since nothing else runs inside a tick (R76). -/
structure TimerRegs where
  div      : Word
  tima     : Byte
  overflow : Bool
  deriving DecidableEq, Repr

/-- One T-cycle of step (c): TIMA counts when the selected bit of div falls and the timer is enabled. -/
def timerCycle (sel : Nat) (en : Bool) (r : TimerRegs) : TimerRegs :=
  let next := r.div + 1
  if en && r.div.getLsbD sel && !next.getLsbD sel then
    if r.tima = 0xFF then ⟨next, 0x00, true⟩ else ⟨next, r.tima + 1, r.overflow⟩
  else { r with div := next }

/-- `n` T-cycles of step (c), so that every falling edge counts (R431). -/
def timerCycles (sel : Nat) (en : Bool) : Nat → TimerRegs → TimerRegs
  | 0, r => r
  | n + 1, r => timerCycles sel en n (timerCycle sel en r)

/-- Step (c) (R431). -/
def State.timerAdvance (s : State) (n : Nat) : State :=
  let tac := s.rawRead 0xFF07
  let r := timerCycles (timerBit tac) (tac.getLsbD 2) n ⟨s.div, s.rawRead 0xFF05, s.overflow⟩
  { s.rawWrite 0xFF05 r.tima with div := r.div, overflow := r.overflow }

/-- Step (d): the top byte of div is published (R433). -/
def State.publishDiv (s : State) : State := s.rawWrite 0xFF04 (hi8 s.div)

/-- `tick(n)` (R430). -/
def State.tick (s : State) (n : Nat) : State :=
  (((s.dmaProgress n).timerReload).timerAdvance n).publishDiv

end Sys2Proof.Machine
end

