-- ==== Sys2Proof/Machine/HostLoop.lean ====
section
/-! DEFINITION. The four transitions of R470 that run after construction, in the order of the host loop
R472: the line's LY write; then, while the budget is below `LINE_BUDGET`, a CPU step and its tick; then
the line's draw. Each transition is one step of the model (assumption 1). -/

namespace Sys2Proof.Machine

/-- The test `budget < LINE_BUDGET` of the line's loop: another CPU step, or the draw. -/
def State.loopTest (s : State) : State :=
  { s with phase := if s.budget < s.cfg.lineBudget then .cpu else .draw }

/-- `write_LY(line)` (R471), a raw write, at the start of a line. -/
def State.lyTransition (s : State) : State := (s.rawWrite 0xFF44 (BitVec.ofNat 8 s.line)).loopTest

/-- After a CPU step comes its tick, unless the step faulted (R400, R472). -/
def State.afterCpu (s : State) : State :=
  match s.fault with
  | none => { s with phase := .tick }
  | some _ => s

/-- The CPU step's transition. -/
def State.cpuTransition (s : State) : Result :=
  match s.cpuStep with
  | .next t => .next t.afterCpu
  | .fault r => .fault r
  | .refused r => .refused r

/-- `tick(c)` with the count of the step before it, which the budget pays for (R472, R474). -/
def State.tickTransition (s : State) : State :=
  let n := s.cycles.getD 0
  let t := s.tick n
  { t with budget := t.budget + n }.loopTest

/-- The end of a line: the budget's overshoot is carried, the scanline drawn, the next line begun (R472). -/
def State.drawTransition (s : State) : State :=
  { s.afterDraw with
    scanline := some s.drawnLine
    budget := s.budget - s.cfg.lineBudget
    line := (s.line + 1) % 154
    phase := .writeLy }

/-- The next transition of the block, for a state without a fault. -/
def State.transition (s : State) : Result :=
  match s.phase with
  | .writeLy => .next s.lyTransition
  | .cpu => s.cpuTransition
  | .tick => .next s.tickTransition
  | .draw => .next s.drawTransition

end Sys2Proof.Machine
end

