-- ==== Sys2Proof/Machine/Reset.lean ====
section
/-! DEFINITION. Construction at power-on, the block's one reset (R500 to R504), from a cartridge image and the
parameters. `State.reset` is construction from the empty image with the default parameters. -/

namespace Sys2Proof.Machine

/-- `ENTRY_PC` (R501). -/
def entryAddress (e : EntryPc) : Word :=
  match e with
  | .cartridge => 0x0100
  | .zero => 0x0000

/-- `mem[a] <- bytes[i]` for the bytes from address `a` on. -/
def loadBytes (a : Nat) : List Byte → Memory → Memory
  | [], m => m
  | v :: rest, m => loadBytes (a + 1) rest (Memory.write m a v)

/-- The memory after construction: the image, zeros, then the boot image over it (R61, R500, R504). -/
def constructedMemory (g : Config) (image : List Byte) : Memory :=
  loadBytes 0 (g.bootImage.getD []) (loadBytes 0 image [])

/-- What construction answers: a machine, or the error RomTooLarge, with which no machine state exists
(R402). -/
inductive Construction where
  | machine (s : State)
  | failed (r : ErrorRecord)
  deriving DecidableEq, Repr

/-- `construct(image)` (R500): the CPU state of R502 and the hidden state of R503 are those of reset. -/
def construct (g : Config) (image : List Byte) : Construction :=
  if imageWellFormed image then
    .machine { State.reset with mem := constructedMemory g image, pc := entryAddress g.entryPc, cfg := g }
  else .failed (.romTooLarge image.length)

end Sys2Proof.Machine
end

