-- ==== Sys2Proof/Machine/Step.lean ====
section
/-! DEFINITION. One step of the machine, and where it fetches its next instruction. -/

namespace Sys2Proof.Machine

/-- One transition of the block in the order of the host loop (R470, R472). Once an error is recorded no
agent has a transition (R400), which is the fault `stopped`. -/
def step (s : State) : Host.Outcome State Fault Refusal :=
  match s.fault with
  | some r => .fault (.stopped r)
  | none => s.transition

/-- `s` with the instruction whose bits are `w` where the very next step fetches and runs it. -/
def State.withFetchWord (s : State) (nbits w : Nat) : State := s.placeInstruction nbits w

end Sys2Proof.Machine
end

