-- ==== Sys2Proof/Safety.lean ====
section
/-! DEFINITION. What claims are stated in: which parts of the state an instruction may change (its frame),
what a CPU write may touch, and the invariants of the machine. No meaning calls anything here. -/

namespace Sys2Proof.Machine

/-! ### Frames -/

/-- The addresses whose bytes a CPU write at `x` may change (R64 to R71): the address, with its echo (R65),
or none for LY (R67). -/
def touched (x : Word) : List Word :=
  if 0xC000 ≤ x.toNat ∧ x.toNat ≤ 0xDDFF then [x, x + 0x2000]
  else if 0xE000 ≤ x.toNat ∧ x.toNat ≤ 0xFDFF then [x, x - 0x2000]
  else if x = 0xFF44 then []
  else [x]

/-- The byte that a CPU write of `v` at `x` stores (R66, R69, R71). -/
def landed (x : Word) (v : Byte) : Byte :=
  if x = 0xFF02 ∧ v = 0x81 then 0x00 else if x = 0xFF04 then 0x00 else v

/-- The addresses a form's CPU writes go to, from the state it runs in (R78). -/
def storeAddresses (s : State) : Form → List Word
  | .ldHlR _ | .ldHlN _ | .ldHliA | .ldHldA | .incHl | .decHl | .rotHl _ | .resHl _ | .setHl _ => [s.hl]
  | .ldBcA => [s.bc]
  | .ldDeA => [s.de]
  | .ldNnA nn => [nn]
  | .ldhNA n => [0xFF00 + zext16 n]
  | .ldCA => [0xFF00 + zext16 s.c]
  | .ldNnSp nn => [nn, nn + 1]
  | .push _ | .call _ | .rst _ => [s.sp - 1, s.sp - 2]
  | .callCc cc _ => if s.cond cc then [s.sp - 1, s.sp - 2] else []
  | .ldRR _ _ | .ldRN _ _ | .ldRHl _ | .ldABc | .ldADe | .ldANn _ | .ldhAN _ | .ldAC | .ldAHli
  | .ldAHld | .ldRrNn _ _ | .ldSpHl | .ldHlSpE _ | .pop _ | .aluR _ _ | .aluHl _ | .aluN _ _ | .incR _
  | .decR _ | .daa | .cpl | .scf | .ccf | .addHl _ | .incRr _ | .decRr _ | .addSpE _ | .rlca | .rrca
  | .rla | .rra | .rotR _ _ | .bitR _ _ | .bitHl _ | .resR _ _ | .setR _ _ | .jp _ | .jpCc _ _ | .jpHl
  | .jr _ | .jrCc _ _ | .ret | .retCc _ | .reti | .nop | .halt | .stop _ | .di | .ei | .unsupported _
    => []

/-- The cells of a pair (R22); SP has none. -/
def pairCells : Pair → List Reg8
  | .bc => [.b, .c]
  | .de => [.d, .e]
  | .hl => [.h, .l]
  | .sp => []

/-- The cells of a push/pop pair (R22, R23). -/
def stackPairCells : StackPair → List Reg8
  | .bc => [.b, .c]
  | .de => [.d, .e]
  | .hl => [.h, .l]
  | .af => [.a]

/-- The data registers a form may write. -/
def destinations : Form → List Reg8
  | .ldRR r _ | .ldRN r _ | .ldRHl r | .incR r | .decR r | .rotR _ r | .resR _ r | .setR _ r => [r]
  | .ldABc | .ldADe | .ldANn _ | .ldhAN _ | .ldAC | .daa | .cpl | .rlca | .rrca | .rla | .rra => [.a]
  | .ldAHli | .ldAHld => [.a, .h, .l]
  | .ldHliA | .ldHldA | .ldHlSpE _ | .addHl _ => [.h, .l]
  | .ldRrNn p _ | .incRr p | .decRr p => pairCells p
  | .pop q => stackPairCells q
  | .aluR op _ | .aluHl op | .aluN op _ => if op = .cp then [] else [.a]
  | .ldHlR _ | .ldHlN _ | .ldBcA | .ldDeA | .ldNnA _ | .ldhNA _ | .ldCA | .ldNnSp _ | .ldSpHl | .push _
  | .incHl | .decHl | .scf | .ccf | .addSpE _ | .rotHl _ | .bitR _ _ | .bitHl _ | .resHl _ | .setHl _
  | .jp _ | .jpCc _ _ | .jpHl | .jr _ | .jrCc _ _ | .call _ | .callCc _ _ | .ret | .retCc _ | .rst _
  | .reti | .nop | .halt | .stop _ | .di | .ei | .unsupported _ => []

/-- Whether a form may write SP. -/
def writesSp : Form → Bool
  | .ldRrNn p _ | .incRr p | .decRr p => decide (p = .sp)
  | .ldSpHl | .addSpE _ | .push _ | .pop _ | .call _ | .callCc _ _ | .ret | .retCc _ | .rst _ | .reti => true
  | .ldRR _ _ | .ldRN _ _ | .ldRHl _ | .ldHlR _ | .ldHlN _ | .ldABc | .ldADe | .ldBcA | .ldDeA
  | .ldANn _ | .ldNnA _ | .ldhAN _ | .ldhNA _ | .ldAC | .ldCA | .ldHliA | .ldHldA | .ldAHli | .ldAHld
  | .ldNnSp _ | .ldHlSpE _ | .aluR _ _ | .aluHl _ | .aluN _ _ | .incR _ | .incHl | .decR _ | .decHl
  | .daa | .cpl | .scf | .ccf | .addHl _ | .rlca | .rrca | .rla | .rra | .rotR _ _ | .rotHl _
  | .bitR _ _ | .bitHl _ | .resR _ _ | .resHl _ | .setR _ _ | .setHl _ | .jp _ | .jpCc _ _ | .jpHl
  | .jr _ | .jrCc _ _ | .nop | .halt | .stop _ | .di | .ei | .unsupported _ => false

/-- The flags a form writes, one Boolean each (R27). -/
def flagsWritten (g : Config) : Form → Flags
  | .aluR _ _ | .aluHl _ | .aluN _ _ | .addSpE _ | .ldHlSpE _ | .rotR _ _ | .rotHl _ => ⟨true, true, true, true⟩
  | .incR _ | .incHl | .decR _ | .decHl | .bitR _ _ | .bitHl _ => ⟨true, true, true, false⟩
  | .addHl _ | .scf | .ccf => ⟨false, true, true, true⟩
  | .rlca | .rrca | .rla | .rra => ⟨decide (g.rotAZ = .clear), true, true, true⟩
  | .daa => ⟨true, false, true, true⟩
  | .cpl => ⟨false, true, true, false⟩
  | .pop q => if q = .af then ⟨true, true, true, true⟩ else ⟨false, false, false, false⟩
  | .ldRR _ _ | .ldRN _ _ | .ldRHl _ | .ldHlR _ | .ldHlN _ | .ldABc | .ldADe | .ldBcA | .ldDeA
  | .ldANn _ | .ldNnA _ | .ldhAN _ | .ldhNA _ | .ldAC | .ldCA | .ldHliA | .ldHldA | .ldAHli | .ldAHld
  | .ldRrNn _ _ | .ldNnSp _ | .ldSpHl | .push _ | .incRr _ | .decRr _ | .resR _ _ | .resHl _
  | .setR _ _ | .setHl _ | .jp _ | .jpCc _ _ | .jpHl | .jr _ | .jrCc _ _ | .call _ | .callCc _ _ | .ret
  | .retCc _ | .rst _ | .reti | .nop | .halt | .stop _ | .di | .ei | .unsupported _
    => ⟨false, false, false, false⟩

/-- The forms that write the IME schedule (R411). -/
def schedulesIme : Form → Bool
  | .di | .ei | .reti => true
  | .ldRR _ _ | .ldRN _ _ | .ldRHl _ | .ldHlR _ | .ldHlN _ | .ldABc | .ldADe | .ldBcA | .ldDeA
  | .ldANn _ | .ldNnA _ | .ldhAN _ | .ldhNA _ | .ldAC | .ldCA | .ldHliA | .ldHldA | .ldAHli | .ldAHld
  | .ldRrNn _ _ | .ldNnSp _ | .ldSpHl | .ldHlSpE _ | .push _ | .pop _ | .aluR _ _ | .aluHl _
  | .aluN _ _ | .incR _ | .incHl | .decR _ | .decHl | .daa | .cpl | .scf | .ccf | .addHl _ | .incRr _
  | .decRr _ | .addSpE _ | .rlca | .rrca | .rla | .rra | .rotR _ _ | .rotHl _ | .bitR _ _ | .bitHl _
  | .resR _ _ | .resHl _ | .setR _ _ | .setHl _ | .jp _ | .jpCc _ _ | .jpHl | .jr _ | .jrCc _ _
  | .call _ | .callCc _ _ | .ret | .retCc _ | .rst _ | .nop | .halt | .stop _ | .unsupported _ => false

/-- The forms that set PC themselves (R26). -/
def transfersControl : Form → Bool
  | .jp _ | .jpCc _ _ | .jpHl | .jr _ | .jrCc _ _ | .call _ | .callCc _ _ | .ret | .retCc _ | .rst _
  | .reti => true
  | .ldRR _ _ | .ldRN _ _ | .ldRHl _ | .ldHlR _ | .ldHlN _ | .ldABc | .ldADe | .ldBcA | .ldDeA
  | .ldANn _ | .ldNnA _ | .ldhAN _ | .ldhNA _ | .ldAC | .ldCA | .ldHliA | .ldHldA | .ldAHli | .ldAHld
  | .ldRrNn _ _ | .ldNnSp _ | .ldSpHl | .ldHlSpE _ | .push _ | .pop _ | .aluR _ _ | .aluHl _
  | .aluN _ _ | .incR _ | .incHl | .decR _ | .decHl | .daa | .cpl | .scf | .ccf | .addHl _ | .incRr _
  | .decRr _ | .addSpE _ | .rlca | .rrca | .rla | .rra | .rotR _ _ | .rotHl _ | .bitR _ _ | .bitHl _
  | .resR _ _ | .resHl _ | .setR _ _ | .setHl _ | .nop | .halt | .stop _ | .di | .ei | .unsupported _
    => false

/-! ### Unassigned bytes -/

/-- The eleven unassigned primary bytes (R113). -/
def unassigned : List Byte := [0xD3, 0xDB, 0xDD, 0xE3, 0xE4, 0xEB, 0xEC, 0xED, 0xF4, 0xFC, 0xFD]

/-! ### Invariants -/

/-- The ranges of R48 for a transfer in flight, whose source base is a multiple of 256 (R68). -/
def Dma.legal : Dma → Bool
  | .inactive => true
  | .active base copied residue => decide (base.toNat % 256 = 0 ∧ copied < 160 ∧ residue < 4)

/-- A count that a CPU step may return (R523): a multiple of 4, at most the 24 of a taken call (R521). -/
def legalCount (n : Nat) : Bool := decide (n % 4 = 0 ∧ 4 ≤ n ∧ n ≤ 24)

/-- Where the budget stands in each phase of the host loop (R472). -/
def budgetLegal (s : State) : Bool :=
  match s.phase with
  | .writeLy => decide (s.budget < 24)
  | .cpu => decide (s.budget < s.cfg.lineBudget)
  | .tick => decide (s.budget < s.cfg.lineBudget) && s.cycles.any legalCount
  | .draw => decide (s.cfg.lineBudget ≤ s.budget ∧ s.budget < s.cfg.lineBudget + 24)

/-- The invariant of the machine: canonical memory, a legal DMA state (R48), a line of the frame (R472),
a budget that overshoots by less than one instruction (R472). -/
def State.legal (s : State) : Bool :=
  Memory.wf s.mem && s.dma.legal && decide (s.line < 154) && budgetLegal s

/-- Each byte of the echo RAM equals its mirror (R63, R65). -/
def State.echoed (s : State) : Prop :=
  ∀ x : Word, 0xC000 ≤ x.toNat → x.toNat ≤ 0xDDFF → s.rawRead (x + 0x2000) = s.rawRead x

/-- The DIV register shows the top byte of div (R33, R433). -/
def State.divShown (s : State) : Prop := s.rawRead 0xFF04 = hi8 s.div

end Sys2Proof.Machine
end

