-- ==== Sys2Proof/Certificates/Slice0/Obligations.lean ====
section
/-! DEFINITION. The statements for the provers. A statement about `exec` is about the state after the fetch: PC
is past the instruction (R16), and `StepRunsDecodedInstruction` says how a step gets there. An
instruction is named by its FORM: `i.form = .ldRR r r2` holds of exactly the rows of the table that follow
that rule with those operands. -/

open Sys2Proof Sys2Proof.Machine

/-! ### Encoding -/

/-- The decoder gives back every instruction that the encoder wrote, with every operand, and leaves the
bytes after it. Every instruction is well formed (R114). -/
def Obligations.DecodeOfEncode : Prop :=
  ∀ (i : Instr) (rest : List Byte), i.wellFormed = true → decode (encode i ++ rest) = .ok i rest

/-- The encoder gives back every byte string that the decoder accepts: each has one meaning (R114). -/
def Obligations.EncodeOfDecode : Prop :=
  ∀ (bytes : List Byte) (i : Instr) (rest : List Byte), decode bytes = .ok i rest → encode i ++ rest = bytes

/-- R101: the first byte alone fixes the length of the instruction. -/
def Obligations.FirstByteFixesLength : Prop :=
  ∀ (b0 b1 b2 : Byte) (rest : List Byte),
    let length :=
      if b0 = 0xCB then 2
      else if b0 ∈ ([0x06, 0x0E, 0x16, 0x1E, 0x26, 0x2E, 0x36, 0x3E, 0x10, 0x18, 0x20, 0x28, 0x30, 0x38,
        0xC6, 0xCE, 0xD6, 0xDE, 0xE6, 0xEE, 0xF6, 0xFE, 0xE0, 0xF0, 0xE8, 0xF8] : List Byte) then 2
      else if b0 ∈ ([0x01, 0x11, 0x21, 0x31, 0x08, 0xC2, 0xC3, 0xCA, 0xD2, 0xDA, 0xC4, 0xCC, 0xD4, 0xDC,
        0xCD, 0xEA, 0xFA] : List Byte) then 3
      else 1
    ∃ i, decode (b0 :: b1 :: b2 :: rest) = .ok i ((b0 :: b1 :: b2 :: rest).drop length) ∧ i.length = length

/-- R115: every byte sequence decodes to exactly one of an UnsupportedOpcode, a CB row or an assigned
primary row, and which of the three it is depends on the first byte alone. -/
def Obligations.DecoderIsTotal : Prop :=
  ∀ (b0 b1 b2 : Byte) (rest : List Byte),
    ∃ i tail, decode (b0 :: b1 :: b2 :: rest) = .ok i tail ∧
      (if b0 ∈ ([0xD3, 0xDB, 0xDD, 0xE3, 0xE4, 0xEB, 0xEC, 0xED, 0xF4, 0xFC, 0xFD] : List Byte) then
        i.form = .unsupported b0 ∧ encode i = [b0]
      else if b0 = 0xCB then encode i = [0xCB, b1] ∧ ∀ b, i.form ≠ .unsupported b
      else (∃ operands, encode i = b0 :: operands) ∧ ∀ b, i.form ≠ .unsupported b)

/-- Words written out from the maps R111 and R112 and the formats R108 decode to the instructions they stand
for. A sanity check. -/
def Obligations.SampleWordsDecode : Prop :=
  decode [0x3E, 0x42] = .ok (.ld_A_n 0x42) [] ∧
  decode [0x48] = .ok .ld_C_B [] ∧
  decode [0x21, 0x00, 0xC0] = .ok (.ld_HL_nn 0xC000) [] ∧
  decode [0x08, 0x00, 0xC1] = .ok (.ld_AtNN_SP 0xC100) [] ∧
  decode [0x93] = .ok .sub_E [] ∧
  decode [0x39] = .ok .add_HL_SP [] ∧
  decode [0xCB, 0x7C] = .ok .bit_7_H [] ∧
  decode [0x20, 0xFB] = .ok (.jr_NZ_e 0xFB) [] ∧
  decode [0xD4, 0x00, 0x02] = .ok (.call_NC_nn 0x0200) [] ∧
  decode [0x10, 0x00] = .ok (.stop 0x00) [] ∧
  decode [0xED] = .ok .unsupportedED []

/-! ### Loads -/

/-- R140, R141, R142, R145, R146, R149, R154, R156: the loads of a register from a register, an immediate
byte or memory. -/
def Obligations.LoadsOfRegisters : Prop :=
  (∀ i r r2, i.form = .ldRR r r2 → encode i = [opByte (0x40 + 8 * r.code + r2.code)] ∧
    ∀ s, exec i s = .next { s.setReg r (s.reg r2) with cycles := some 4 }) ∧
  (∀ i r n, i.form = .ldRN r n → encode i = [opByte (0x06 + 8 * r.code), n] ∧
    ∀ s, exec i s = .next { s.setReg r n with cycles := some 8 }) ∧
  (∀ i r, i.form = .ldRHl r → encode i = [opByte (0x46 + 8 * r.code)] ∧
    ∀ s, exec i s = .next { s.setReg r (s.rawRead s.hl) with cycles := some 8 }) ∧
  (∀ i, i.form = .ldABc → encode i = [0x0A] ∧
    ∀ s, exec i s = .next { s with a := s.rawRead (s.b ++ s.c), cycles := some 8 }) ∧
  (∀ i, i.form = .ldADe → encode i = [0x1A] ∧
    ∀ s, exec i s = .next { s with a := s.rawRead (s.d ++ s.e), cycles := some 8 }) ∧
  (∀ i nn, i.form = .ldANn nn → encode i = [0xFA, lo8 nn, hi8 nn] ∧
    ∀ s, exec i s = .next { s with a := s.rawRead nn, cycles := some 16 }) ∧
  (∀ i n, i.form = .ldhAN n → encode i = [0xF0, n] ∧
    ∀ s, exec i s = .next { s with a := s.rawRead (0xFF00 + n.setWidth 16), cycles := some 12 }) ∧
  (∀ i, i.form = .ldAC → encode i = [0xF2] ∧
    ∀ s, exec i s = .next { s with a := s.rawRead (0xFF00 + s.c.setWidth 16), cycles := some 8 })

/-- R143, R144, R147, R148, R150, R155, R157, R158, R159, R160, R161: the stores of a byte, and the loads and
stores through HL that then move HL by one. What one CPU write does is the statement `CpuWriteDispatch`. -/
def Obligations.StoresAndHlStepping : Prop :=
  (∀ i r, i.form = .ldHlR r → encode i = [opByte (0x70 + r.code)] ∧
    ∀ s, exec i s = .next { s.memWrite s.hl (s.reg r) with cycles := some 8 }) ∧
  (∀ i n, i.form = .ldHlN n → encode i = [0x36, n] ∧
    ∀ s, exec i s = .next { s.memWrite s.hl n with cycles := some 12 }) ∧
  (∀ i, i.form = .ldBcA → encode i = [0x02] ∧
    ∀ s, exec i s = .next { s.memWrite (s.b ++ s.c) s.a with cycles := some 8 }) ∧
  (∀ i, i.form = .ldDeA → encode i = [0x12] ∧
    ∀ s, exec i s = .next { s.memWrite (s.d ++ s.e) s.a with cycles := some 8 }) ∧
  (∀ i nn, i.form = .ldNnA nn → encode i = [0xEA, lo8 nn, hi8 nn] ∧
    ∀ s, exec i s = .next { s.memWrite nn s.a with cycles := some 16 }) ∧
  (∀ i n, i.form = .ldhNA n → encode i = [0xE0, n] ∧
    ∀ s, exec i s = .next { s.memWrite (0xFF00 + n.setWidth 16) s.a with cycles := some 12 }) ∧
  (∀ i, i.form = .ldCA → encode i = [0xE2] ∧
    ∀ s, exec i s = .next { s.memWrite (0xFF00 + s.c.setWidth 16) s.a with cycles := some 8 }) ∧
  (∀ i, i.form = .ldHliA → encode i = [0x22] ∧
    ∀ s, exec i s = .next { s.memWrite s.hl s.a with
      h := hi8 (s.hl + 1), l := lo8 (s.hl + 1), cycles := some 8 }) ∧
  (∀ i, i.form = .ldHldA → encode i = [0x32] ∧
    ∀ s, exec i s = .next { s.memWrite s.hl s.a with
      h := hi8 (s.hl - 1), l := lo8 (s.hl - 1), cycles := some 8 }) ∧
  (∀ i, i.form = .ldAHli → encode i = [0x2A] ∧
    ∀ s, exec i s = .next { s with
      a := s.rawRead s.hl, h := hi8 (s.hl + 1), l := lo8 (s.hl + 1), cycles := some 8 }) ∧
  (∀ i, i.form = .ldAHld → encode i = [0x3A] ∧
    ∀ s, exec i s = .next { s with
      a := s.rawRead s.hl, h := hi8 (s.hl - 1), l := lo8 (s.hl - 1), cycles := some 8 })

/-- R180, R181, R182, R184, R185: the 16-bit loads, PUSH and POP. -/
def Obligations.WordLoadsAndStack : Prop :=
  (∀ i p nn, i.form = .ldRrNn p nn → encode i = [opByte (0x01 + 16 * p.code), lo8 nn, hi8 nn] ∧
    ∀ s, exec i s = .next { s.setPair p nn with cycles := some 12 }) ∧
  (∀ i nn, i.form = .ldNnSp nn → encode i = [0x08, lo8 nn, hi8 nn] ∧
    ∀ s, exec i s =
      .next { (s.memWrite nn (lo8 s.sp)).memWrite (nn + 1) (hi8 s.sp) with cycles := some 20 }) ∧
  (∀ i, i.form = .ldSpHl → encode i = [0xF9] ∧
    ∀ s, exec i s = .next { s with sp := s.hl, cycles := some 8 }) ∧
  (∀ i q, i.form = .push q → encode i = [opByte (0xC5 + 16 * q.code)] ∧
    ∀ s, exec i s = .next
      { (s.memWrite (s.sp - 1) (hi8 (s.stackPair q))).memWrite (s.sp - 2) (lo8 (s.stackPair q)) with
        sp := s.sp - 2, cycles := some 16 }) ∧
  (∀ i q, i.form = .pop q → encode i = [opByte (0xC1 + 16 * q.code)] ∧
    ∀ s,
      let lo := s.rawRead s.sp
      let hi := s.rawRead (s.sp + 1)
      exec i s = .next (match q with
        | .bc => { s with b := hi, c := lo, sp := s.sp + 2, cycles := some 12 }
        | .de => { s with d := hi, e := lo, sp := s.sp + 2, cycles := some 12 }
        | .hl => { s with h := hi, l := lo, sp := s.sp + 2, cycles := some 12 }
        | .af => { s with
            a := hi, f := ⟨lo.getLsbD 7, lo.getLsbD 6, lo.getLsbD 5, lo.getLsbD 4⟩,
            sp := s.sp + 2, cycles := some 12 }))

/-! ### Arithmetic and logic -/

/-- R200, R202 to R207: ADD and ADC, of a register, of the byte at HL, of an immediate. -/
def Obligations.AddAndAdc : Prop :=
  let result (s : State) (v : Byte) (cin : Bool) (count : Nat) : State :=
    let sum := s.a.toNat + v.toNat + cin.toNat
    { s with
      a := BitVec.ofNat 8 (sum % 256)
      f := {
        z := decide (sum % 256 = 0)
        n := false
        h := decide ((s.a &&& 0x0F).toNat + (v &&& 0x0F).toNat + cin.toNat ≥ 0x10)
        c := decide (sum ≥ 0x100) }
      cycles := some count }
  (∀ i r, i.form = .aluR .add r → encode i = [opByte (0x80 + r.code)] ∧
    ∀ s, exec i s = .next (result s (s.reg r) false 4)) ∧
  (∀ i, i.form = .aluHl .add → encode i = [0x86] ∧
    ∀ s, exec i s = .next (result s (s.rawRead s.hl) false 8)) ∧
  (∀ i n, i.form = .aluN .add n → encode i = [0xC6, n] ∧
    ∀ s, exec i s = .next (result s n false 8)) ∧
  (∀ i r, i.form = .aluR .adc r → encode i = [opByte (0x88 + r.code)] ∧
    ∀ s, exec i s = .next (result s (s.reg r) s.f.c 4)) ∧
  (∀ i, i.form = .aluHl .adc → encode i = [0x8E] ∧
    ∀ s, exec i s = .next (result s (s.rawRead s.hl) s.f.c 8)) ∧
  (∀ i n, i.form = .aluN .adc n → encode i = [0xCE, n] ∧
    ∀ s, exec i s = .next (result s n s.f.c 8))

/-- R201, R208 to R213, R223 to R225: SUB, SBC, and CP, which leaves A. -/
def Obligations.SubSbcAndCp : Prop :=
  let difference (s : State) (v : Byte) (cin : Bool) : Int := (s.a.toNat : Int) - v.toNat - cin.toNat
  let flags (s : State) (v : Byte) (cin : Bool) : Flags := {
    z := decide (difference s v cin % 256 = 0)
    n := true
    h := decide ((s.a &&& 0x0F).toNat < (v &&& 0x0F).toNat + cin.toNat)
    c := decide (s.a.toNat < v.toNat + cin.toNat) }
  let result (s : State) (v : Byte) (cin : Bool) (count : Nat) : State :=
    { s with a := BitVec.ofInt 8 (difference s v cin % 256), f := flags s v cin, cycles := some count }
  let compared (s : State) (v : Byte) (count : Nat) : State :=
    { s with f := flags s v false, cycles := some count }
  (∀ i r, i.form = .aluR .sub r → encode i = [opByte (0x90 + r.code)] ∧
    ∀ s, exec i s = .next (result s (s.reg r) false 4)) ∧
  (∀ i, i.form = .aluHl .sub → encode i = [0x96] ∧
    ∀ s, exec i s = .next (result s (s.rawRead s.hl) false 8)) ∧
  (∀ i n, i.form = .aluN .sub n → encode i = [0xD6, n] ∧
    ∀ s, exec i s = .next (result s n false 8)) ∧
  (∀ i r, i.form = .aluR .sbc r → encode i = [opByte (0x98 + r.code)] ∧
    ∀ s, exec i s = .next (result s (s.reg r) s.f.c 4)) ∧
  (∀ i, i.form = .aluHl .sbc → encode i = [0x9E] ∧
    ∀ s, exec i s = .next (result s (s.rawRead s.hl) s.f.c 8)) ∧
  (∀ i n, i.form = .aluN .sbc n → encode i = [0xDE, n] ∧
    ∀ s, exec i s = .next (result s n s.f.c 8)) ∧
  (∀ i r, i.form = .aluR .cp r → encode i = [opByte (0xB8 + r.code)] ∧
    ∀ s, exec i s = .next (compared s (s.reg r) 4)) ∧
  (∀ i, i.form = .aluHl .cp → encode i = [0xBE] ∧
    ∀ s, exec i s = .next (compared s (s.rawRead s.hl) 8)) ∧
  (∀ i n, i.form = .aluN .cp n → encode i = [0xFE, n] ∧
    ∀ s, exec i s = .next (compared s n 8))

/-- R214 to R222: AND, XOR and OR. -/
def Obligations.AndXorOr : Prop :=
  let result (s : State) (value : Byte) (half : Bool) (count : Nat) : State :=
    { s with a := value, f := ⟨decide (value = 0), false, half, false⟩, cycles := some count }
  (∀ i r, i.form = .aluR .and r → encode i = [opByte (0xA0 + r.code)] ∧
    ∀ s, exec i s = .next (result s (s.a &&& s.reg r) true 4)) ∧
  (∀ i, i.form = .aluHl .and → encode i = [0xA6] ∧
    ∀ s, exec i s = .next (result s (s.a &&& s.rawRead s.hl) true 8)) ∧
  (∀ i n, i.form = .aluN .and n → encode i = [0xE6, n] ∧
    ∀ s, exec i s = .next (result s (s.a &&& n) true 8)) ∧
  (∀ i r, i.form = .aluR .xor r → encode i = [opByte (0xA8 + r.code)] ∧
    ∀ s, exec i s = .next (result s (s.a ^^^ s.reg r) false 4)) ∧
  (∀ i, i.form = .aluHl .xor → encode i = [0xAE] ∧
    ∀ s, exec i s = .next (result s (s.a ^^^ s.rawRead s.hl) false 8)) ∧
  (∀ i n, i.form = .aluN .xor n → encode i = [0xEE, n] ∧
    ∀ s, exec i s = .next (result s (s.a ^^^ n) false 8)) ∧
  (∀ i r, i.form = .aluR .or r → encode i = [opByte (0xB0 + r.code)] ∧
    ∀ s, exec i s = .next (result s (s.a ||| s.reg r) false 4)) ∧
  (∀ i, i.form = .aluHl .or → encode i = [0xB6] ∧
    ∀ s, exec i s = .next (result s (s.a ||| s.rawRead s.hl) false 8)) ∧
  (∀ i n, i.form = .aluN .or n → encode i = [0xF6, n] ∧
    ∀ s, exec i s = .next (result s (s.a ||| n) false 8))

/-- R226 to R229: INC and DEC of a register and of the byte at HL. The flags show the computed result even
where the write is dropped. -/
def Obligations.IncAndDec : Prop :=
  let up (v : Byte) : Byte := BitVec.ofNat 8 ((v.toNat + 1) % 256)
  let down (v : Byte) : Byte := BitVec.ofNat 8 ((v.toNat + 255) % 256)
  let upFlags (v : Byte) (f : Flags) : Flags := ⟨decide (up v = 0), false, decide (v &&& 0x0F = 0x0F), f.c⟩
  let downFlags (v : Byte) (f : Flags) : Flags := ⟨decide (down v = 0), true, decide (v &&& 0x0F = 0x00), f.c⟩
  (∀ i r, i.form = .incR r → encode i = [opByte (0x04 + 8 * r.code)] ∧
    ∀ s, exec i s =
      .next { s.setReg r (up (s.reg r)) with f := upFlags (s.reg r) s.f, cycles := some 4 }) ∧
  (∀ i, i.form = .incHl → encode i = [0x34] ∧
    ∀ s,
      let v := s.rawRead s.hl
      exec i s = .next { s.memWrite s.hl (up v) with f := upFlags v s.f, cycles := some 12 }) ∧
  (∀ i r, i.form = .decR r → encode i = [opByte (0x05 + 8 * r.code)] ∧
    ∀ s, exec i s =
      .next { s.setReg r (down (s.reg r)) with f := downFlags (s.reg r) s.f, cycles := some 4 }) ∧
  (∀ i, i.form = .decHl → encode i = [0x35] ∧
    ∀ s,
      let v := s.rawRead s.hl
      exec i s = .next { s.memWrite s.hl (down v) with f := downFlags v s.f, cycles := some 12 })

/-- R230 to R233: DAA by its two branches, CPL, SCF and CCF. -/
def Obligations.DaaCplScfCcf : Prop :=
  (∀ i, i.form = .daa → encode i = [0x27] ∧
    ∀ s,
      let a := s.a.toNat
      let high := s.f.c || (!s.f.n && decide (a > 0x99))
      let low := s.f.h || (!s.f.n && decide (a % 16 > 0x09))
      let adj := (if high then 0x60 else 0) + (if low then 0x06 else 0)
      let res := if s.f.n then (a + 256 - adj) % 256 else (a + adj) % 256
      exec i s = .next { s with
        a := BitVec.ofNat 8 res
        f := { z := decide (res = 0), n := s.f.n, h := false, c := if s.f.n then s.f.c else high }
        cycles := some 4 }) ∧
  (∀ i, i.form = .cpl → encode i = [0x2F] ∧
    ∀ s, exec i s = .next { s with
      a := BitVec.ofNat 8 (255 - s.a.toNat), f := ⟨s.f.z, true, true, s.f.c⟩, cycles := some 4 }) ∧
  (∀ i, i.form = .scf → encode i = [0x37] ∧
    ∀ s, exec i s = .next { s with f := ⟨s.f.z, false, false, true⟩, cycles := some 4 }) ∧
  (∀ i, i.form = .ccf → encode i = [0x3F] ∧
    ∀ s, exec i s = .next { s with f := ⟨s.f.z, false, false, !s.f.c⟩, cycles := some 4 })

/-- R183, R240 to R244: the 16-bit additions, and INC and DEC of a pair. -/
def Obligations.WordArithmetic : Prop :=
  let signed (e : Byte) : Int := if e.toNat < 128 then e.toNat else (e.toNat : Int) - 256
  let spPlus (s : State) (e : Byte) : Word := BitVec.ofInt 16 ((s.sp.toNat + signed e) % 65536)
  let spFlags (s : State) (e : Byte) : Flags := {
    z := false
    n := false
    h := decide ((s.sp &&& 0x000F).toNat + (e &&& 0x0F).toNat ≥ 0x10)
    c := decide ((s.sp &&& 0x00FF).toNat + e.toNat ≥ 0x100) }
  (∀ i p, i.form = .addHl p → encode i = [opByte (0x09 + 16 * p.code)] ∧
    ∀ s,
      let x := s.hl
      let y := s.pair p
      let sum : Word := BitVec.ofNat 16 ((x.toNat + y.toNat) % 65536)
      exec i s = .next { s with
        h := hi8 sum
        l := lo8 sum
        f := {
          z := s.f.z
          n := false
          h := decide ((x &&& 0x0FFF).toNat + (y &&& 0x0FFF).toNat ≥ 0x1000)
          c := decide (x.toNat + y.toNat ≥ 0x10000) }
        cycles := some 8 }) ∧
  (∀ i p, i.form = .incRr p → encode i = [opByte (0x03 + 16 * p.code)] ∧
    ∀ s, exec i s = .next { s.setPair p (s.pair p + 1) with cycles := some 8 }) ∧
  (∀ i p, i.form = .decRr p → encode i = [opByte (0x0B + 16 * p.code)] ∧
    ∀ s, exec i s = .next { s.setPair p (s.pair p - 1) with cycles := some 8 }) ∧
  (∀ i e, i.form = .addSpE e → encode i = [0xE8, e] ∧
    ∀ s, exec i s = .next { s with sp := spPlus s e, f := spFlags s e, cycles := some 16 }) ∧
  (∀ i e, i.form = .ldHlSpE e → encode i = [0xF8, e] ∧
    ∀ s, exec i s = .next { s with
      h := hi8 (spPlus s e), l := lo8 (spPlus s e), f := spFlags s e, cycles := some 12 })

/-! ### Rotates, shifts and bits: results as numbers, `v / 128` the old bit 7, `v % 2` the old bit 0 -/

/-- R260 to R263, R265 to R272: the accumulator rotates, and the CB rotates of a register and of the byte
at HL. -/
def Obligations.Rotates : Prop :=
  let rlc (v : Byte) (_ : Bool) : Nat := 2 * v.toNat % 256 + v.toNat / 128
  let rrc (v : Byte) (_ : Bool) : Nat := v.toNat / 2 + 128 * (v.toNat % 2)
  let rl (v : Byte) (c : Bool) : Nat := 2 * v.toNat % 256 + c.toNat
  let rr (v : Byte) (c : Bool) : Nat := v.toNat / 2 + 128 * c.toNat
  let top (v : Byte) : Bool := decide (v.toNat / 128 = 1)
  let bottom (v : Byte) : Bool := decide (v.toNat % 2 = 1)
  let accumulator (res : Byte → Bool → Nat) (out : Byte → Bool) (s : State) : State :=
    { s with
      a := BitVec.ofNat 8 (res s.a s.f.c)
      f := { z := if s.cfg.rotAZ = .clear then false else s.f.z, n := false, h := false, c := out s.a }
      cycles := some 4 }
  let flags (res : Byte → Bool → Nat) (out : Byte → Bool) (v : Byte) (c : Bool) : Flags :=
    ⟨decide (res v c = 0), false, false, out v⟩
  let register (res : Byte → Bool → Nat) (out : Byte → Bool) (r : Reg8) (s : State) : State :=
    { s.setReg r (BitVec.ofNat 8 (res (s.reg r) s.f.c)) with
      f := flags res out (s.reg r) s.f.c, cycles := some 8 }
  let memory (res : Byte → Bool → Nat) (out : Byte → Bool) (s : State) : State :=
    { s.memWrite s.hl (BitVec.ofNat 8 (res (s.rawRead s.hl) s.f.c)) with
      f := flags res out (s.rawRead s.hl) s.f.c, cycles := some 16 }
  (∀ i, i.form = .rlca → encode i = [0x07] ∧ ∀ s, exec i s = .next (accumulator rlc top s)) ∧
  (∀ i, i.form = .rrca → encode i = [0x0F] ∧ ∀ s, exec i s = .next (accumulator rrc bottom s)) ∧
  (∀ i, i.form = .rla → encode i = [0x17] ∧ ∀ s, exec i s = .next (accumulator rl top s)) ∧
  (∀ i, i.form = .rra → encode i = [0x1F] ∧ ∀ s, exec i s = .next (accumulator rr bottom s)) ∧
  (∀ i r, i.form = .rotR .rlc r → encode i = [0xCB, opByte r.code] ∧
    ∀ s, exec i s = .next (register rlc top r s)) ∧
  (∀ i, i.form = .rotHl .rlc → encode i = [0xCB, 0x06] ∧ ∀ s, exec i s = .next (memory rlc top s)) ∧
  (∀ i r, i.form = .rotR .rrc r → encode i = [0xCB, opByte (0x08 + r.code)] ∧
    ∀ s, exec i s = .next (register rrc bottom r s)) ∧
  (∀ i, i.form = .rotHl .rrc → encode i = [0xCB, 0x0E] ∧ ∀ s, exec i s = .next (memory rrc bottom s)) ∧
  (∀ i r, i.form = .rotR .rl r → encode i = [0xCB, opByte (0x10 + r.code)] ∧
    ∀ s, exec i s = .next (register rl top r s)) ∧
  (∀ i, i.form = .rotHl .rl → encode i = [0xCB, 0x16] ∧ ∀ s, exec i s = .next (memory rl top s)) ∧
  (∀ i r, i.form = .rotR .rr r → encode i = [0xCB, opByte (0x18 + r.code)] ∧
    ∀ s, exec i s = .next (register rr bottom r s)) ∧
  (∀ i, i.form = .rotHl .rr → encode i = [0xCB, 0x1E] ∧ ∀ s, exec i s = .next (memory rr bottom s))

/-- R273 to R280: SLA, SRA, SWAP and SRL of a register and of the byte at HL. -/
def Obligations.ShiftsAndSwap : Prop :=
  let sla (v : Byte) : Nat := 2 * v.toNat % 256
  let sra (v : Byte) : Nat := v.toNat / 2 + 128 * (v.toNat / 128)
  let swap (v : Byte) : Nat := 16 * (v.toNat % 16) + v.toNat / 16
  let srl (v : Byte) : Nat := v.toNat / 2
  let top (v : Byte) : Bool := decide (v.toNat / 128 = 1)
  let bottom (v : Byte) : Bool := decide (v.toNat % 2 = 1)
  let zero (_ : Byte) : Bool := false
  let register (res : Byte → Nat) (out : Byte → Bool) (r : Reg8) (s : State) : State :=
    { s.setReg r (BitVec.ofNat 8 (res (s.reg r))) with
      f := ⟨decide (res (s.reg r) = 0), false, false, out (s.reg r)⟩, cycles := some 8 }
  let memory (res : Byte → Nat) (out : Byte → Bool) (s : State) : State :=
    { s.memWrite s.hl (BitVec.ofNat 8 (res (s.rawRead s.hl))) with
      f := ⟨decide (res (s.rawRead s.hl) = 0), false, false, out (s.rawRead s.hl)⟩, cycles := some 16 }
  (∀ i r, i.form = .rotR .sla r → encode i = [0xCB, opByte (0x20 + r.code)] ∧
    ∀ s, exec i s = .next (register sla top r s)) ∧
  (∀ i, i.form = .rotHl .sla → encode i = [0xCB, 0x26] ∧ ∀ s, exec i s = .next (memory sla top s)) ∧
  (∀ i r, i.form = .rotR .sra r → encode i = [0xCB, opByte (0x28 + r.code)] ∧
    ∀ s, exec i s = .next (register sra bottom r s)) ∧
  (∀ i, i.form = .rotHl .sra → encode i = [0xCB, 0x2E] ∧ ∀ s, exec i s = .next (memory sra bottom s)) ∧
  (∀ i r, i.form = .rotR .swap r → encode i = [0xCB, opByte (0x30 + r.code)] ∧
    ∀ s, exec i s = .next (register swap zero r s)) ∧
  (∀ i, i.form = .rotHl .swap → encode i = [0xCB, 0x36] ∧ ∀ s, exec i s = .next (memory swap zero s)) ∧
  (∀ i r, i.form = .rotR .srl r → encode i = [0xCB, opByte (0x38 + r.code)] ∧
    ∀ s, exec i s = .next (register srl bottom r s)) ∧
  (∀ i, i.form = .rotHl .srl → encode i = [0xCB, 0x3E] ∧ ∀ s, exec i s = .next (memory srl bottom s))

/-- R281 to R286: BIT, RES and SET of a register and of the byte at HL. -/
def Obligations.BitResSet : Prop :=
  let tested (s : State) (b : Fin 8) (v : Byte) (count : Nat) : State :=
    { s with f := ⟨decide (v.toNat / 2 ^ b.val % 2 = 0), false, true, s.f.c⟩, cycles := some count }
  let res (b : Fin 8) (v : Byte) : Byte := BitVec.ofNat 8 (v.toNat - 2 ^ b.val * (v.toNat / 2 ^ b.val % 2))
  let set (b : Fin 8) (v : Byte) : Byte :=
    BitVec.ofNat 8 (v.toNat + 2 ^ b.val * (1 - v.toNat / 2 ^ b.val % 2))
  (∀ i b r, i.form = .bitR b r → encode i = [0xCB, opByte (0x40 + 8 * b.val + r.code)] ∧
    ∀ s, exec i s = .next (tested s b (s.reg r) 8)) ∧
  (∀ i b, i.form = .bitHl b → encode i = [0xCB, opByte (0x46 + 8 * b.val)] ∧
    ∀ s, exec i s = .next (tested s b (s.rawRead s.hl) 12)) ∧
  (∀ i b r, i.form = .resR b r → encode i = [0xCB, opByte (0x80 + 8 * b.val + r.code)] ∧
    ∀ s, exec i s = .next { s.setReg r (res b (s.reg r)) with cycles := some 8 }) ∧
  (∀ i b, i.form = .resHl b → encode i = [0xCB, opByte (0x86 + 8 * b.val)] ∧
    ∀ s, exec i s = .next { s.memWrite s.hl (res b (s.rawRead s.hl)) with cycles := some 16 }) ∧
  (∀ i b r, i.form = .setR b r → encode i = [0xCB, opByte (0xC0 + 8 * b.val + r.code)] ∧
    ∀ s, exec i s = .next { s.setReg r (set b (s.reg r)) with cycles := some 8 }) ∧
  (∀ i b, i.form = .setHl b → encode i = [0xCB, opByte (0xC6 + 8 * b.val)] ∧
    ∀ s, exec i s = .next { s.memWrite s.hl (set b (s.rawRead s.hl)) with cycles := some 16 })

/-! ### Control transfer and system -/

/-- R300 to R305: the jumps. -/
def Obligations.Jumps : Prop :=
  let holds (cc : Cond) (f : Flags) : Bool := match cc with
    | .nz => f.z == false | .z => f.z == true | .nc => f.c == false | .c => f.c == true
  let forward (pc : Word) (e : Byte) : Word := pc + (if e.toNat < 128 then e.setWidth 16 else e.setWidth 16 + 0xFF00)
  (∀ i nn, i.form = .jp nn → encode i = [0xC3, lo8 nn, hi8 nn] ∧
    ∀ s, exec i s = .next { s with pc := nn, cycles := some 16 }) ∧
  (∀ i cc nn, i.form = .jpCc cc nn → encode i = [opByte (0xC2 + 8 * cc.code), lo8 nn, hi8 nn] ∧
    ∀ s, exec i s =
      .next (if holds cc s.f then { s with pc := nn, cycles := some 16 } else { s with cycles := some 12 })) ∧
  (∀ i, i.form = .jpHl → encode i = [0xE9] ∧
    ∀ s, exec i s = .next { s with pc := s.hl, cycles := some 4 }) ∧
  (∀ i e, i.form = .jr e → encode i = [0x18, e] ∧
    ∀ s, exec i s = .next { s with pc := forward s.pc e, cycles := some 12 }) ∧
  (∀ i cc e, i.form = .jrCc cc e → encode i = [opByte (0x20 + 8 * cc.code), e] ∧
    ∀ s, exec i s =
      .next (if holds cc s.f then { s with pc := forward s.pc e, cycles := some 12 }
        else { s with cycles := some 8 }))

/-- R306 to R311: the calls, the restarts and the returns; RETI also schedules the interrupt enable. -/
def Obligations.CallsAndReturns : Prop :=
  let holds (cc : Cond) (f : Flags) : Bool := match cc with
    | .nz => f.z == false | .z => f.z == true | .nc => f.c == false | .c => f.c == true
  let called (s : State) (target : Word) (count : Nat) : State :=
    { (s.memWrite (s.sp - 1) (hi8 s.pc)).memWrite (s.sp - 2) (lo8 s.pc) with
      sp := s.sp - 2, pc := target, cycles := some count }
  let returned (s : State) (count : Nat) : State :=
    { s with
      pc := s.rawRead (s.sp + 1) ++ s.rawRead s.sp, sp := s.sp + 2, cycles := some count }
  (∀ i nn, i.form = .call nn → encode i = [0xCD, lo8 nn, hi8 nn] ∧
    ∀ s, exec i s = .next (called s nn 24)) ∧
  (∀ i cc nn, i.form = .callCc cc nn → encode i = [opByte (0xC4 + 8 * cc.code), lo8 nn, hi8 nn] ∧
    ∀ s, exec i s = .next (if holds cc s.f then called s nn 24 else { s with cycles := some 12 })) ∧
  (∀ i y, i.form = .rst y → encode i = [opByte (0xC7 + 8 * y.val)] ∧
    ∀ s, exec i s = .next (called s (BitVec.ofNat 16 (8 * y.val)) 16)) ∧
  (∀ i, i.form = .ret → encode i = [0xC9] ∧ ∀ s, exec i s = .next (returned s 16)) ∧
  (∀ i cc, i.form = .retCc cc → encode i = [opByte (0xC0 + 8 * cc.code)] ∧
    ∀ s, exec i s = .next (if holds cc s.f then returned s 20 else { s with cycles := some 8 })) ∧
  (∀ i, i.form = .reti → encode i = [0xD9] ∧
    ∀ s, exec i s = .next { returned s 16 with
      scheduledIme := true, wroteSchedule := true
      ime := if s.cfg.imeTiming = .hw then true else s.ime })

/-- R340, R342, R343, R344 with R412, and HALT (R341): the system instructions. -/
def Obligations.SystemInstructions : Prop :=
  (∀ i, i.form = .nop → encode i = [0x00] ∧ ∀ s, exec i s = .next { s with cycles := some 4 }) ∧
  (∀ i, i.form = .halt → encode i = [0x76] ∧
    ∀ s, exec i s = .next { s with halted := true, cycles := some 4 }) ∧
  (∀ i x, i.form = .stop x → encode i = [0x10, x] ∧
    ∀ s, exec i s = .next { s with halted := true, cycles := some 4 }) ∧
  (∀ i, i.form = .di → encode i = [0xF3] ∧
    ∀ s, exec i s = .next { s with
      scheduledIme := false, wroteSchedule := true
      ime := if s.cfg.imeTiming = .hw then false else s.ime, cycles := some 4 }) ∧
  (∀ i, i.form = .ei → encode i = [0xFB] ∧
    ∀ s, exec i s = .next { s with scheduledIme := true, wroteSchedule := true, cycles := some 4 })

/-- R346: each unassigned byte raises UnsupportedOpcode with itself and the address it was fetched from, one
below PC; no cycle count is returned and nothing else changes. That this is a next state, and the stop the step
after it, is the model's form (log entry 3). -/
def Obligations.UnassignedBytesRaise : Prop :=
  ∀ i op, i.form = .unsupported op →
    op ∈ ([0xD3, 0xDB, 0xDD, 0xE3, 0xE4, 0xEB, 0xEC, 0xED, 0xF4, 0xFC, 0xFD] : List Byte) ∧
    encode i = [op] ∧
    ∀ s, exec i s =
      .next { s with fault := some (.unsupportedOpcode op false (s.pc - 1)), cycles := none }

/-! ### Registers and memory -/

/-- R22, R23: a register write changes that register alone; the pairs are the high cell and the low cell; AF
reads with a zero low nibble and a write to it drops that nibble. -/
def Obligations.RegistersAndPairs : Prop :=
  ∀ (s : State) (r : Reg8) (p : Pair) (b : Byte) (v : Word),
    (s.setReg r b).reg r = b ∧ (∀ q, q ≠ r → (s.setReg r b).reg q = s.reg q) ∧
    s.bc.toNat = s.b.toNat * 256 + s.c.toNat ∧
    s.de.toNat = s.d.toNat * 256 + s.e.toNat ∧
    s.hl.toNat = s.h.toNat * 256 + s.l.toNat ∧
    s.setPair .bc v = { s with b := v.extractLsb' 8 8, c := v.extractLsb' 0 8 } ∧
    s.setPair .de v = { s with d := v.extractLsb' 8 8, e := v.extractLsb' 0 8 } ∧
    s.setPair .hl v = { s with h := v.extractLsb' 8 8, l := v.extractLsb' 0 8 } ∧
    s.setPair .sp v = { s with sp := v } ∧
    (s.setPair p v).pair p = v ∧
    s.af.toNat = s.a.toNat * 256 + (128 * s.f.z.toNat + 64 * s.f.n.toNat + 32 * s.f.h.toNat + 16 * s.f.c.toNat) ∧
    s.setStackPair .af v = { s with
      a := v.extractLsb' 8 8, f := ⟨v.getLsbD 7, v.getLsbD 6, v.getLsbD 5, v.getLsbD 4⟩ } ∧
    (s.setStackPair .af v).af = v &&& 0xFFF0

/-- R64 to R71: what one CPU write does, by the address. -/
def Obligations.CpuWriteDispatch : Prop :=
  ∀ (s : State) (a : Word) (v : Byte),
    let t := s.memWrite a v
    (0xC000 ≤ a.toNat ∧ a.toNat ≤ 0xDDFF →
      t = { s with mem := t.mem } ∧
      ∀ x, t.rawRead x = if x = a ∨ x = a + 0x2000 then v else s.rawRead x) ∧
    (0xE000 ≤ a.toNat ∧ a.toNat ≤ 0xFDFF →
      t = { s with mem := t.mem } ∧
      ∀ x, t.rawRead x = if x = a ∨ x = a - 0x2000 then v else s.rawRead x) ∧
    (a = 0xFF02 ∧ v = 0x81 →
      t = { s with mem := t.mem, serialOut := s.serialOut ++ [s.rawRead 0xFF01] } ∧
      ∀ x, t.rawRead x = if x = 0xFF02 then 0x00 else s.rawRead x) ∧
    (a = 0xFF04 →
      t = { s with mem := t.mem, div := 0x0000 } ∧
      ∀ x, t.rawRead x = if x = 0xFF04 then 0x00 else s.rawRead x) ∧
    (a = 0xFF44 → t = s) ∧
    (a = 0xFF46 →
      t = { s with mem := t.mem, dma := .active (BitVec.ofNat 16 (v.toNat * 256)) 0 0 } ∧
      ∀ x, t.rawRead x = if x = 0xFF46 then v else s.rawRead x) ∧
    (¬ (0xC000 ≤ a.toNat ∧ a.toNat ≤ 0xDDFF) → ¬ (0xE000 ≤ a.toNat ∧ a.toNat ≤ 0xFDFF) →
      ¬ (a = 0xFF02 ∧ v = 0x81) → a ≠ 0xFF04 → a ≠ 0xFF44 → a ≠ 0xFF46 →
      t = { s with mem := t.mem } ∧ ∀ x, t.rawRead x = if x = a then v else s.rawRead x)

/-- A word pushed to plain addresses is popped again, and SP is back where it was (from R14); so a CALL returns
to the instruction after it from every state `t'` in which the subroutine left memory and SP as it found
them. The premise leaves out the three addresses where the stored byte is not the byte written. -/
def Obligations.PushThenPop : Prop :=
  ∀ (s : State) (v : Word),
    (∀ x ∈ [s.sp - 1, s.sp - 2], x ≠ 0xFF02 ∧ x ≠ 0xFF04 ∧ x ≠ 0xFF44) →
    (s.push16 v).popWord = v ∧ (s.push16 v).popped.sp = s.sp ∧
    (∀ target t t' u, exec (.call_nn target) s = .next t → t'.mem = t.mem → t'.sp = t.sp →
      exec .ret t' = .next u → u.pc = s.pc ∧ u.sp = s.sp)

/-! ### Frames: what an instruction leaves as it was -/

/-- Which data registers an instruction may change: its destination, HL where the form steps it, and the
cells of a popped or stepped pair; SP only where the form names it or uses the stack; PC only by control
transfers (R11, R14, R22 to R26). -/
def Obligations.RegisterFrame : Prop :=
  ∀ (i : Instr) (s t : State), exec i s = .next t →
    (∀ r, r ∉ destinations i.form → t.reg r = s.reg r) ∧
    (writesSp i.form = false → t.sp = s.sp) ∧
    (transfersControl i.form = false → t.pc = s.pc)

/-- Which flags an instruction may change (R27): the others are as before. -/
def Obligations.FlagFrame : Prop :=
  ∀ (i : Instr) (s t : State), exec i s = .next t →
    let w := flagsWritten s.cfg i.form
    (w.z = false → t.f.z = s.f.z) ∧ (w.n = false → t.f.n = s.f.n) ∧
    (w.h = false → t.f.h = s.f.h) ∧ (w.c = false → t.f.c = s.f.c)

/-- Which bytes an instruction may change: those that its CPU writes touch, at the addresses that
`storeAddresses` computes from the state it runs in. A form that stores nothing leaves all of memory. -/
def Obligations.MemoryFrame : Prop :=
  ∀ (i : Instr) (s t : State), exec i s = .next t →
    (storeAddresses s i.form = [] → t.mem = s.mem) ∧
    ∀ x, (∀ a ∈ storeAddresses s i.form, x ∉ touched a) → t.rawRead x = s.rawRead x

/-- What an instruction leaves of the hidden state and of the host's: the timer's pending flag, the phase, the
line, the budget, the row and the parameters always; the interrupt enable but for DI, EI and RETI; the
halted flag but for HALT and STOP; the error record but for an unassigned byte; and div, the DMA
controller and the serial output unless a store goes to DIV, DMA or SC (R65 to R71). -/
def Obligations.HiddenStateFrame : Prop :=
  ∀ (i : Instr) (s t : State), exec i s = .next t →
    t.overflow = s.overflow ∧ t.phase = s.phase ∧ t.line = s.line ∧ t.budget = s.budget ∧
    t.scanline = s.scanline ∧ t.cfg = s.cfg ∧
    (schedulesIme i.form = false →
      t.ime = s.ime ∧ t.scheduledIme = s.scheduledIme ∧ t.wroteSchedule = s.wroteSchedule) ∧
    ((∀ x, i.form ≠ .stop x) → i.form ≠ .halt → t.halted = s.halted) ∧
    ((∀ op, i.form ≠ .unsupported op) → t.fault = s.fault) ∧
    (0xFF04 ∉ storeAddresses s i.form → t.div = s.div) ∧
    (0xFF46 ∉ storeAddresses s i.form → t.dma = s.dma) ∧
    (0xFF02 ∉ storeAddresses s i.form → t.serialOut = s.serialOut)

/-! ### The CPU step -/

/-- When the bytes at PC decode to an instruction, the CPU step runs it: the halted flag and the schedule
flag are cleared, PC is past its bytes, `exec` runs it, and `end_step` and the tick follow unless it
faulted (R16, R100, R411, R415). The field `phase`, which says that the tick is next, is the model's (log
entry 1); the three bytes are read at once (log entry 7). -/
def Obligations.StepRunsDecodedInstruction : Prop :=
  ∀ (s : State) (i : Instr) (rest : List Byte),
    s.fault = none → s.phase = .cpu → (s.halted = false ∨ s.pending ≠ 0) →
    ¬ (s.cfg.irqDispatch = true ∧ s.ime = true ∧ s.pending ≠ 0) →
    decode [s.rawRead s.pc, s.rawRead (s.pc + 1), s.rawRead (s.pc + 2)] = .ok i rest →
    ∃ t,
      exec i { s with halted := false, wroteSchedule := false, pc := s.pc + BitVec.ofNat 16 i.length } = .next t ∧
      step s = .next (if t.fault = none then
          { t with ime := if t.wroteSchedule then t.ime else t.scheduledIme, phase := .tick }
        else t)

/-- From R414, with R411, R415 and R523: a halted step with nothing pending is idle, for 4 cycles, with the
end-of-step rule (`ime` takes the scheduled value); with a request pending and enabled it wakes and goes on as
a running step, whatever `ime` and `IRQ_DISPATCH` are. The field `phase`, which says that the tick is next, is
the model's (log entry 1); `wroteSchedule` and `cycles` as fields are the model's too (log entry 4). -/
def Obligations.HaltedStep : Prop :=
  ∀ s : State, s.fault = none → s.phase = .cpu → s.halted = true →
    let pending := s.rawRead 0xFFFF &&& s.rawRead 0xFF0F &&& 0x1F
    (pending = 0 → step s = .next { s with
      wroteSchedule := false, ime := s.scheduledIme, cycles := some 4, phase := .tick }) ∧
    (pending ≠ 0 → step s = step { s with halted := false })

/-- From R421, with R415 and R416: with `IRQ_DISPATCH` and `ime`, the lowest pending request is taken: acknowledged
in IF, interrupts disabled, PC pushed high byte first, and the vector 0x40 + 8k entered, for 20 cycles. That a
halted CPU wakes first, and the place of the dispatch in the step, are R415. The field `phase`, which says that
the tick is next, is the model's (log entry 1); `wroteSchedule` and `cycles` as fields are too (log entry 4). -/
def Obligations.InterruptIsTaken : Prop :=
  ∀ (s : State) (k : Nat), s.fault = none → s.phase = .cpu → s.cfg.irqDispatch = true → s.ime = true →
    k < 5 →
    let pending := s.rawRead 0xFFFF &&& s.rawRead 0xFF0F &&& 0x1F
    pending.getLsbD k = true → (∀ j < k, pending.getLsbD j = false) →
    let u := { s with
      mem := Memory.write s.mem 0xFF0F (s.rawRead 0xFF0F &&& ~~~(0x01#8 <<< k))
      ime := false, scheduledIme := false, wroteSchedule := true, halted := false }
    step s = .next { (u.memWrite (s.sp - 1) (hi8 s.pc)).memWrite (s.sp - 2) (lo8 s.pc) with
      sp := s.sp - 2, pc := BitVec.ofNat 16 (0x40 + 8 * k), cycles := some 20, phase := .tick }

/-- From R411: with interrupts off, EI and then DI never turns them on, and EI and then an instruction that
writes no schedule turns them on at the end of that instruction's step and not before. `n` is the tick between. -/
def Obligations.EnableIsDelayed : Prop :=
  ∀ (s t : State) (n : Nat), s.fault = none → s.halted = false → s.ime = false →
    s.fetched.form = .ei → s.cpuStep = .next t →
    t.ime = false ∧ t.scheduledIme = true ∧ t.cycles = some 4 ∧
    ∀ u, (t.tick n).cpuStep = .next u → u.fault = none →
      ((t.tick n).fetched.form = .di → u.ime = false ∧ u.scheduledIme = false) ∧
      (schedulesIme (t.tick n).fetched.form = false → u.ime = true)

/-- R410: without `IRQ_DISPATCH` nothing reads `ime`. Two states that differ in `ime` alone make steps that
differ in `ime` alone. -/
def Obligations.ImeIsNotRead : Prop :=
  ∀ (s t : State) (b : Bool), s.cfg.irqDispatch = false → step s = .next t →
    ∃ b', step { s with ime := b } = .next { t with ime := b' }

/-- From R523: a CPU step that did not fault returns a multiple of 4, from 4 to 24; one that faulted returns
no count. -/
def Obligations.StepCounts : Prop :=
  ∀ s t : State, s.phase = .cpu → step s = .next t →
    (t.fault = none → ∃ n, t.cycles = some n ∧ n % 4 = 0 ∧ 4 ≤ n ∧ n ≤ 24) ∧
    (t.fault ≠ none → t.cycles = none)

/-- From R517: a CPU that is halted, with no request pending and none of VBlank, STAT and timer enabled,
stays so through every transition, at the same PC: the block never sets the serial and joypad bits. -/
def Obligations.HaltWithoutSourceNeverEnds : Prop :=
  ∀ s t : State, s.halted = true → s.pending = 0 → s.rawRead 0xFFFF &&& 0x07 = 0 → step s = .next t →
    t.halted = true ∧ t.pending = 0 ∧ t.rawRead 0xFFFF = s.rawRead 0xFFFF ∧ t.pc = s.pc ∧ t.fault = none

/-! ### Errors -/

/-- From R400: once an error is recorded no agent has a transition, and a step that records one returns no
count. That the error is a next state and the stop the fault `stopped` of the step after it is the model's
form (log entry 3). -/
def Obligations.ErrorIsFatal : Prop :=
  (∀ (s : State) (r : ErrorRecord), s.fault = some r → step s = .fault (.stopped r)) ∧
  (∀ (s t : State) (r : ErrorRecord), step s = .next t → t.fault = some r →
    t.cycles = none ∧ step t = .fault (.stopped r))

/-- From R401, with R404, R405 and R415: an error is recorded exactly where the CPU fetches an unassigned byte as an
opcode: after the halt check and the dispatch check of the step (R405, R415). The record holds the byte and its
address and has code 1; PC is one past it, a halted CPU has woken (`halted` is false, R414), the step's local
flag is cleared (R411), no register, flag, memory byte or IME state has changed, and the step returns no count.
That the error is a next state, with the `phase` left at the CPU, is the model's form (log entries 3 and 1). -/
def Obligations.ErrorIsPrecise : Prop :=
  ∀ s t : State, step s = .next t →
    let op := s.rawRead s.pc
    (t.fault ≠ none ↔
      s.phase = .cpu ∧ (s.halted = false ∨ s.pending ≠ 0) ∧
      ¬ (s.cfg.irqDispatch = true ∧ s.ime = true ∧ s.pending ≠ 0) ∧
      op ∈ ([0xD3, 0xDB, 0xDD, 0xE3, 0xE4, 0xEB, 0xEC, 0xED, 0xF4, 0xFC, 0xFD] : List Byte)) ∧
    (t.fault ≠ none →
      ErrorRecord.code (.unsupportedOpcode op false s.pc) = 1 ∧
      t = { s with
        fault := some (.unsupportedOpcode op false s.pc), pc := s.pc + 1, cycles := none
        halted := false, wroteSchedule := false })

/-- From R400 and R473: every state without an error has a next state, and no step is refused. The fault `stopped`
after an error is the model's form (log entry 3). -/
def Obligations.EveryStepAnswers : Prop :=
  ∀ s : State, (s.fault = none ∧ ∃ t, step s = .next t) ∨
    (∃ r, s.fault = some r ∧ step s = .fault (.stopped r))

/-! ### Timer and OAM DMA -/

/-- R430, R432, R433: the four parts of a tick in their order, what the overflow reload does, and what is
published. -/
def Obligations.TickOrder : Prop :=
  ∀ (s : State) (n : Nat),
    s.tick n = (((s.dmaProgress n).timerReload).timerAdvance n).publishDiv ∧
    s.timerReload = (if s.overflow then
      { s with
        mem := Memory.write (Memory.write s.mem 0xFF05 (s.rawRead 0xFF06)) 0xFF0F
          ((s.rawWrite 0xFF05 (s.rawRead 0xFF06)).rawRead 0xFF0F ||| 0x04)
        overflow := false }
      else s) ∧
    s.publishDiv = { s with mem := Memory.write s.mem 0xFF04 (s.div.extractLsb' 8 8) }

/-- R431: the div advance is the rule's loop, one T-cycle at a time. The model reads and writes TIMA once for
the whole tick; each byte, div and the overflow flag come out as the loop gives them. -/
def Obligations.TimerFollowsLoop : Prop :=
  ∀ (s : State) (n : Nat),
    let sel := [9, 3, 5, 7].getD (s.rawRead 0xFF07 &&& 0x03).toNat 0
    let en := (s.rawRead 0xFF07).getLsbD 2
    let cycle (t : State) : State :=
      let next := t.div + 1
      if en = true ∧ t.div.getLsbD sel = true ∧ next.getLsbD sel = false then
        if t.rawRead 0xFF05 = 0xFF then { t.rawWrite 0xFF05 0x00 with div := next, overflow := true }
        else { t.rawWrite 0xFF05 (t.rawRead 0xFF05 + 1) with div := next }
      else { t with div := next }
    (∀ x, (s.timerAdvance n).rawRead x = (cycle^[n] s).rawRead x) ∧
    (s.timerAdvance n).div = (cycle^[n] s).div ∧
    (s.timerAdvance n).overflow = (cycle^[n] s).overflow

/-- From R430 to R434: what a whole tick of `n` cycles leaves in the timer. TIMA starts from TMA if a reload
was pending and counts the falls of the selected bit `b` of div, one for each 2^(b+1) counts of div, while
TAC bit 2 is set; it wraps with the overflow flag; DIV shows div. -/
def Obligations.TickOfTimer : Prop :=
  ∀ (s : State) (n : Nat),
    let t := s.tick n
    let b := [9, 3, 5, 7].getD (s.rawRead 0xFF07 &&& 0x03).toNat 0
    let start := if s.overflow then s.rawRead 0xFF06 else s.rawRead 0xFF05
    let falls := if (s.rawRead 0xFF07).getLsbD 2 then (s.div.toNat + n) / 2 ^ (b + 1) - s.div.toNat / 2 ^ (b + 1) else 0
    t.div = s.div + BitVec.ofNat 16 n ∧
    t.rawRead 0xFF04 = t.div.extractLsb' 8 8 ∧
    t.rawRead 0xFF05 = BitVec.ofNat 8 (start.toNat + falls) ∧
    t.overflow = decide (start.toNat + falls ≥ 256) ∧
    t.rawRead 0xFF0F = (if s.overflow then s.rawRead 0xFF0F ||| 0x04 else s.rawRead 0xFF0F)

/-- R441, for a source base that is a multiple of 256, as every one is (R68): the bytes copied, the bytes left,
and the controller after `n` cycles of progress. -/
def Obligations.DmaProgress : Prop :=
  (∀ (s : State) (n : Nat), s.dma = .inactive → s.dmaProgress n = s) ∧
  ∀ (s : State) (n k res : Nat) (src : Word), s.dma = .active src k res → src.toNat % 256 = 0 → k < 160 →
    let total := res + n
    let m := min (total / 4) (160 - k)
    let t := s.dmaProgress n
    t = { s with mem := t.mem, dma := t.dma } ∧
    t.dma = (if k + m = 160 then .inactive else .active src (k + m) (total % 4)) ∧
    (∀ j, j < m → t.rawRead (0xFE00 + BitVec.ofNat 16 (k + j)) = s.rawRead (src + BitVec.ofNat 16 (k + j))) ∧
    (∀ x, (∀ j, j < m → x ≠ 0xFE00 + BitVec.ofNat 16 (k + j)) → t.rawRead x = s.rawRead x)

/-- From R441, R442: a transfer just started moves its 160 bytes over 640 cycles of progress, however they are
cut, and then stops. -/
def Obligations.DmaTakes640Cycles : Prop :=
  ∀ (s : State) (src : Word) (counts : List Nat), s.dma = .active src 0 0 → src.toNat % 256 = 0 →
    let t := counts.foldl State.dmaProgress s
    let copied := min 160 (counts.sum / 4)
    t.dma = (if counts.sum < 640 then .active src (counts.sum / 4) (counts.sum % 4) else .inactive) ∧
    (∀ j, j < copied → t.rawRead (0xFE00 + BitVec.ofNat 16 j) = s.rawRead (src + BitVec.ofNat 16 j))

/-! ### The PPU -/

/-- R451: the sprite scan takes the first ten of the forty entries, in their order, whose x is not 0 and
whose rows hold the line, compared without a wrap. -/
def Obligations.SpriteScan : Prop :=
  ∀ s : State,
    let line := (s.rawRead 0xFF44).toNat + (match s.cfg.spriteYOffset with | .zero => 0 | .sixteen => 16)
    let height := if (s.rawRead 0xFF40).getLsbD 2 then 16 else 8
    let entry (i : Nat) : Sprite := {
      y := s.rawRead (BitVec.ofNat 16 (0xFE00 + 4 * i))
      x := s.rawRead (BitVec.ofNat 16 (0xFE01 + 4 * i))
      tileIndex := s.rawRead (BitVec.ofNat 16 (0xFE02 + 4 * i))
      attributes := s.rawRead (BitVec.ofNat 16 (0xFE03 + 4 * i)) }
    s.spriteScan =
      (((List.range 40).map entry).filter
        (fun e => decide (e.x ≠ 0 ∧ e.y.toNat ≤ line ∧ line < e.y.toNat + height))).take 10

/-- R450, R452, R453: a line with the LCD off is blank; with it on, and without `COMPOSE_OBJ_WIN`, the row is
160 background shades, computed here with 16-bit addresses, beside the scanned sprites. -/
def Obligations.BackgroundRow : Prop :=
  ∀ s : State,
    let lcdc := s.rawRead 0xFF40
    let index (x : Nat) : Nat :=
      let bx := ((s.rawRead 0xFF43).toNat + x) % 256
      let by' := ((s.rawRead 0xFF42).toNat + (s.rawRead 0xFF44).toNat) % 256
      let map : Word := if lcdc.getLsbD 3 then 0x9C00 else 0x9800
      let t := s.rawRead (map + BitVec.ofNat 16 (32 * (by' / 8) + bx / 8))
      let base : Word :=
        if lcdc.getLsbD 4 then 0x8000 + 16 * t.setWidth 16 else 0x9000 + 16 * t.signExtend 16
      let lo := s.rawRead (base + BitVec.ofNat 16 (2 * (by' % 8)))
      let hi := s.rawRead (base + BitVec.ofNat 16 (2 * (by' % 8)) + 1)
      let k := 7 - bx % 8
      2 * (hi.getLsbD k).toNat + (lo.getLsbD k).toNat
    (lcdc.getLsbD 7 = false → s.drawnLine = ⟨List.replicate 160 0, []⟩) ∧
    (lcdc.getLsbD 7 = true → s.drawnLine.sprites = s.spriteScan ∧ s.drawnLine.row.length = 160 ∧
      (s.cfg.composeObjWin = false → ∀ x, x < 160 →
        s.drawnLine.row[x]? = some (((s.rawRead 0xFF47) >>> (2 * index x)).setWidth 2)))

/-- R457 (and R456): with `COMPOSE_OBJ_WIN` a pixel's index is the window's where the window covers it, else the
background's, else 0 with the background off; without sprites the row shows it through BGP. -/
def Obligations.WindowLayer : Prop :=
  ∀ (s : State) (x : Nat), x < 160 →
    let lcdc := s.rawRead 0xFF40
    let ly := (s.rawRead 0xFF44).toNat
    let wy := (s.rawRead 0xFF4A).toNat
    let wx := (s.rawRead 0xFF4B).toNat
    let at' (map px py : Nat) : Nat :=
      let t := s.rawRead (BitVec.ofNat 16 (map + 32 * (py / 8) + px / 8))
      let base : Word :=
        if lcdc.getLsbD 4 then 0x8000 + 16 * t.setWidth 16 else 0x9000 + 16 * t.signExtend 16
      let lo := s.rawRead (base + BitVec.ofNat 16 (2 * (py % 8)))
      let hi := s.rawRead (base + BitVec.ofNat 16 (2 * (py % 8)) + 1)
      2 * (hi.getLsbD (7 - px % 8)).toNat + (lo.getLsbD (7 - px % 8)).toNat
    let index :=
      if lcdc.getLsbD 0 = false then 0
      else if lcdc.getLsbD 5 = true ∧ wy ≤ ly ∧ wx ≤ x + 7 then
        at' (if lcdc.getLsbD 6 then 0x9C00 else 0x9800) (x + 7 - wx) (ly - wy)
      else
        at' (if lcdc.getLsbD 3 then 0x9C00 else 0x9800) (((s.rawRead 0xFF43).toNat + x) % 256)
          (((s.rawRead 0xFF42).toNat + ly) % 256)
    s.layerIndex x = index ∧
    (s.cfg.composeObjWin = true → lcdc.getLsbD 7 = true → lcdc.getLsbD 1 = false →
      s.drawnLine.row[x]? = some (((s.rawRead 0xFF47) >>> (2 * index)).setWidth 2))

/-- R458, the order of the candidates at a pixel: exactly the scanned sprites that cover it, by rising X, and
those of one X in OAM order. -/
def Obligations.SpritePriority : Prop :=
  ∀ (x : Nat) (sprites : List Sprite),
    let covering := sprites.filter (fun e => decide (e.x.toNat ≤ x + 8 ∧ x < e.x.toNat))
    (candidates x sprites).Perm covering ∧
    (candidates x sprites).Pairwise (fun p q => p.x.toNat ≤ q.x.toNat) ∧
    ∀ v : Byte, (candidates x sprites).filter (fun e => e.x == v) = covering.filter (fun e => e.x == v)

/-- R458, the choice among the candidates, in order: the first one whose pixel is not transparent decides. It
shows its palette's shade, unless it stands behind a background colour other than 0; where it does, or where
every one is transparent, the pixel is the layer's of R457. -/
def Obligations.SpritePixel : Prop :=
  ∀ (s : State) (x : Nat), x < 160 → s.cfg.composeObjWin = true → (s.rawRead 0xFF40).getLsbD 7 = true →
    (s.rawRead 0xFF40).getLsbD 1 = true →
    let height := if (s.rawRead 0xFF40).getLsbD 2 then 16 else 8
    let line := (s.rawRead 0xFF44).toNat + (match s.cfg.spriteYOffset with | .zero => 0 | .sixteen => 16)
    let index (e : Sprite) : Nat :=
      let row := if e.attributes.getLsbD 6 then height - 1 - (line - e.y.toNat) else line - e.y.toNat
      let tile := if height = 16 then e.tileIndex &&& 0xFE else e.tileIndex
      let address : Word := 0x8000 + 16 * tile.setWidth 16 + BitVec.ofNat 16 (2 * row)
      let col := if e.attributes.getLsbD 5 then 7 - (x + 8 - e.x.toNat) else x + 8 - e.x.toNat
      2 * ((s.rawRead (address + 1)).getLsbD (7 - col)).toNat + ((s.rawRead address).getLsbD (7 - col)).toNat
    let shade (palette : Byte) (i : Nat) : BitVec 2 := (palette >>> (2 * i)).setWidth 2
    let layer := s.layerIndex x
    ((∀ e ∈ candidates x s.spriteScan, index e = 0) →
      s.drawnLine.row[x]? = some (shade (s.rawRead 0xFF47) layer)) ∧
    (∀ before e after, candidates x s.spriteScan = before ++ e :: after →
      (∀ b ∈ before, index b = 0) → index e ≠ 0 →
      s.drawnLine.row[x]? = some (
        if e.attributes.getLsbD 7 = true ∧ layer ≠ 0 then shade (s.rawRead 0xFF47) layer
        else shade (if e.attributes.getLsbD 4 then s.rawRead 0xFF49 else s.rawRead 0xFF48) (index e)))

/-- R454, R455: after an enabled line the coincidence bit and the STAT request, and the VBlank request with
`VBLANK_IRQ` on line 144; after a blank line, nothing. -/
def Obligations.CoincidenceAndVblank : Prop :=
  ∀ s : State,
    let t := s.afterDraw
    let same := s.rawRead 0xFF44 = s.rawRead 0xFF45
    let requests : Byte :=
      (if same then 0x02 else 0x00) ||| (if s.cfg.vblankIrq = true ∧ s.rawRead 0xFF44 = 144 then 0x01 else 0x00)
    ((s.rawRead 0xFF40).getLsbD 7 = false → t = s) ∧
    ((s.rawRead 0xFF40).getLsbD 7 = true →
      t = { s with mem := t.mem } ∧
      t.rawRead 0xFF41 = (if same then s.rawRead 0xFF41 ||| 0x04 else s.rawRead 0xFF41 &&& 0xFB) ∧
      t.rawRead 0xFF0F = s.rawRead 0xFF0F ||| requests ∧
      ∀ x, x ≠ 0xFF41 → x ≠ 0xFF0F → t.rawRead x = s.rawRead x)

/-- From R459: the PPU writes bit 2 of STAT and bits 0 and 1 of IF and nothing else, and with equal memory (and
parameters) it draws the same line. The draw transition also moves fields that are the model's and not the
PPU's: the row it keeps (`scanline`, log entry 6), the loop's counters (`line`, `budget`, log entry 5) and
`phase`, which becomes writeLy (log entry 1). -/
def Obligations.PpuWritesOnly : Prop :=
  (∀ s t : State, s.phase = .draw → step s = .next t →
    t = { s with mem := t.mem, scanline := t.scanline, budget := t.budget, line := t.line, phase := .writeLy } ∧
    (∀ x, x ≠ 0xFF41 → x ≠ 0xFF0F → t.rawRead x = s.rawRead x) ∧
    (∀ k, k < 8 → k ≠ 2 → (t.rawRead 0xFF41).getLsbD k = (s.rawRead 0xFF41).getLsbD k) ∧
    (∀ k, k < 8 → k ≠ 0 → k ≠ 1 → (t.rawRead 0xFF0F).getLsbD k = (s.rawRead 0xFF0F).getLsbD k)) ∧
  (∀ s u : State, s.mem = u.mem → s.cfg = u.cfg →
    s.drawnLine = u.drawnLine ∧ s.afterDraw.mem = u.afterDraw.mem)

/-- From R456: without `COMPOSE_OBJ_WIN`, bits 0, 1, 5 and 6 of LCDC and the bytes OBP0, OBP1, WY and WX are
not read: states that differ in them alone draw the same line. -/
def Obligations.UnusedVideoRegisters : Prop :=
  ∀ s u : State, s.cfg = u.cfg → s.cfg.composeObjWin = false →
    (∀ x : Word, x ∉ ([0xFF40, 0xFF48, 0xFF49, 0xFF4A, 0xFF4B] : List Word) → s.rawRead x = u.rawRead x) →
    (∀ k ∈ [2, 3, 4, 7], (s.rawRead 0xFF40).getLsbD k = (u.rawRead 0xFF40).getLsbD k) →
    s.drawnLine = u.drawnLine

/-! ### The host loop and construction -/

/-- From R472: the host loop, one transition at a time, from a constructed machine on: a line's LY write; CPU steps
and ticks with the same count while the budget lasts; the draw, with the overshoot carried to the next
line of 154. The field `phase`, which holds the place in the loop, is the model's (log entry 1); so are the
loop's counters as fields of State (log entry 5) and the row kept in `scanline` (log entry 6). -/
def Obligations.HostLoop : Prop :=
  Config.default.lineBudget = 456 ∧
  (∀ g image s, construct g image = .machine s → s.phase = .writeLy ∧ s.line = 0 ∧ s.budget = 0) ∧
  ∀ s : State, s.fault = none →
    (s.phase = .writeLy → step s = .next { s with
      mem := Memory.write s.mem 0xFF44 (BitVec.ofNat 8 s.line)
      phase := if s.budget < s.cfg.lineBudget then .cpu else .draw }) ∧
    (s.phase = .cpu → ∃ t, s.cpuStep = .next t ∧
      step s = .next (if t.fault = none then { t with phase := .tick } else t)) ∧
    (s.phase = .tick → ∀ n, s.cycles = some n → step s = .next { s.tick n with
      budget := s.budget + n
      phase := if s.budget + n < s.cfg.lineBudget then .cpu else .draw }) ∧
    (s.phase = .draw → s.line ≤ 153 → step s = .next { s.afterDraw with
      scanline := some s.drawnLine
      budget := s.budget - s.cfg.lineBudget
      line := if s.line = 153 then 0 else s.line + 1
      phase := .writeLy })

/-- R41, R67, R471: only the host's write changes LY. -/
def Obligations.LyIsTheHosts : Prop :=
  ∀ s t : State, step s = .next t →
    t.rawRead 0xFF44 = if s.phase = .writeLy then BitVec.ofNat 8 s.line else s.rawRead 0xFF44

/-- R402, R500 to R504 and R61: construction from an image: too long an image fails and makes no machine;
else every register and every byte has its reset value, the boot image lying over the cartridge image. -/
def Obligations.Construction : Prop :=
  ∀ (g : Config) (image : List Byte), g.wellFormed = true →
    (image.length > 32768 → construct g image = .failed (.romTooLarge image.length) ∧
      ErrorRecord.code (.romTooLarge image.length) = 3) ∧
    (image.length ≤ 32768 → ∃ s, construct g image = .machine s ∧
      s.a = 0 ∧ s.b = 0 ∧ s.c = 0 ∧ s.d = 0 ∧ s.e = 0 ∧ s.h = 0 ∧ s.l = 0 ∧
      s.f = ⟨false, false, false, false⟩ ∧ s.sp = 0xFFFE ∧
      s.pc = (match g.entryPc with | .cartridge => 0x0100 | .zero => 0x0000) ∧
      s.ime = false ∧ s.scheduledIme = false ∧ s.halted = false ∧ s.fault = none ∧
      s.div = 0 ∧ s.overflow = false ∧ s.dma = .inactive ∧ s.serialOut = [] ∧ s.cfg = g ∧
      ∀ x : Word,
        let boot := g.bootImage.getD []
        s.rawRead x = (boot ++ image.drop boot.length).getD x.toNat 0x00)

/-- The state the model starts from is construction from the empty image with the default parameters. The
empty image is the model's choice (log entry 9); its register values are those of R502 and R503. -/
def Obligations.ResetIsConstruction : Prop :=
  construct Config.default [] = .machine State.reset ∧
  State.reset.pc = 0x0100 ∧ State.reset.sp = 0xFFFE ∧ State.reset.af = 0x0000 ∧ State.reset.mem = []

/-! ### Invariants and histories -/

/-- Every step keeps the invariant of the machine: canonical memory, a legal DMA controller, a line below 154,
and a budget that overshoots by less than 24. -/
def Obligations.StepKeepsLegal : Prop :=
  ∀ s t : State, s.legal = true → step s = .next t → t.legal = true

/-- Every step keeps the echo: each byte of 0xE000..0xFDFF equals its mirror (R63, R65). -/
def Obligations.StepKeepsEcho : Prop :=
  ∀ s t : State, s.echoed → step s = .next t → t.echoed

/-- Every step keeps the DIV register equal to the top byte of div (R33). -/
def Obligations.StepKeepsDivShown : Prop :=
  ∀ s t : State, s.divShown → step s = .next t → t.divShown

/-- The three invariants hold right after reset. -/
def Obligations.ResetHasInvariants : Prop :=
  State.reset.legal = true ∧ State.reset.echoed ∧ State.reset.divShown

/-- From R51: a step only appends to the serial output, and only a CPU step does; and it keeps the
parameters. -/
def Obligations.SerialIsAppendOnly : Prop :=
  ∀ s t : State, step s = .next t →
    t.cfg = s.cfg ∧ ∃ sent, t.serialOut = s.serialOut ++ sent ∧ (s.phase ≠ .cpu → sent = [])
end

