-- ==== Sys2Proof/Laws/Bits.lean ====
section
/-! SUPPORT. The byte halves of a word, and the byte form of the flags. -/

namespace Sys2Proof.Machine

theorem cat_toNat (x y : Byte) : (cat x y).toNat = x.toNat * 256 + y.toNat := by
  have hy := y.isLt
  simp only [cat, BitVec.toNat_append]
  rw [← Nat.shiftLeft_add_eq_or_of_lt (by omega)]
  simp [Nat.shiftLeft_eq]

theorem hi8_toNat (v : Word) : (hi8 v).toNat = v.toNat / 256 := by
  have := v.isLt
  simp [hi8, Nat.shiftRight_eq_div_pow]
  omega

theorem lo8_toNat (v : Word) : (lo8 v).toNat = v.toNat % 256 := by
  simp [lo8]

@[simp] theorem cat_hi8_lo8 (v : Word) : cat (hi8 v) (lo8 v) = v := by
  apply BitVec.eq_of_toNat_eq
  rw [cat_toNat, hi8_toNat, lo8_toNat]
  omega

@[simp] theorem hi8_cat (x y : Byte) : hi8 (cat x y) = x := by
  apply BitVec.eq_of_toNat_eq
  have := y.isLt
  rw [hi8_toNat, cat_toNat]
  omega

@[simp] theorem lo8_cat (x y : Byte) : lo8 (cat x y) = y := by
  apply BitVec.eq_of_toNat_eq
  have := y.isLt
  rw [lo8_toNat, cat_toNat]
  omega

/-- The value of the byte form of F (R21). -/
theorem Flags.toByte_toNat (f : Flags) :
    f.toByte.toNat = 128 * f.z.toNat + 64 * f.n.toNat + 32 * f.h.toNat + 16 * f.c.toNat := by
  obtain ⟨z, n, h, c⟩ := f
  cases z <;> cases n <;> cases h <;> cases c <;> rfl

/-- Storing the byte form of F gives F back (R23). -/
@[simp] theorem Flags.ofByte_toByte (f : Flags) : Flags.ofByte f.toByte = f := by
  obtain ⟨z, n, h, c⟩ := f
  cases z <;> cases n <;> cases h <;> cases c <;> rfl

end Sys2Proof.Machine
end

