-- ==== Sys2Proof/Laws/Memory.lean ====
section
/-! SUPPORT. The laws of the memory list: a read after a write, and that a write keeps the canonical
form. -/

namespace Sys2Proof.Machine

theorem Memory.read_insertCell (m : Memory) (k j : Nat) (v : Byte)
    (hk : ∀ cell ∈ m, cell.1 ≠ k) :
    Memory.read (Memory.insertCell m k v) j = if j = k then v else Memory.read m j := by
  induction m with
  | nil => simp [insertCell, read, eq_comm]
  | cons cell m ih =>
    obtain ⟨k', v'⟩ := cell
    have hne : k' ≠ k := hk (k', v') (by simp)
    have ih := ih (fun c hc => hk c (List.mem_cons_of_mem (k', v') hc))
    unfold insertCell
    split
    · by_cases hj : j = k
      · simp [read, hj]
      · simp [read, Ne.symm hj, hj]
    · by_cases hj : k' = j
      · subst hj; simp [read, hne]
      · simp [read, hj, ih]

theorem Memory.read_filter (m : Memory) (k j : Nat) :
    Memory.read (m.filter (fun cell => cell.1 != k)) j = if j = k then 0 else Memory.read m j := by
  induction m with
  | nil => simp [read]
  | cons cell m ih =>
    obtain ⟨k', v'⟩ := cell
    by_cases hk : k' = k
    · subst hk
      simp only [List.filter_cons, bne_self_eq_false, Bool.false_eq_true, if_false, ih, read]
      by_cases hj : j = k'
      · simp [hj]
      · simp [hj, Ne.symm hj]
    · simp only [List.filter_cons, bne_iff_ne, ne_eq, hk, not_false_eq_true, if_true, read, ih]
      by_cases hj : k' = j
      · subst hj; simp [hk]
      · simp [hj]

/-- A read after a write: the written value at the written address, the old one elsewhere. -/
theorem Memory.read_write (m : Memory) (k j : Nat) (v : Byte) :
    Memory.read (Memory.write m k v) j = if j = k then v else Memory.read m j := by
  unfold write
  by_cases hv : v = 0
  · simp only [hv, if_true, read_filter]
  · rw [if_neg hv, read_insertCell _ _ _ _ (by simp), read_filter]
    by_cases hj : j = k <;> simp [hj]

theorem State.rawRead_rawWrite (s : State) (x y : Word) (v : Byte) :
    (s.rawWrite x v).rawRead y = if y = x then v else s.rawRead y := by
  simp only [rawRead, rawWrite, Memory.read_write, BitVec.toNat_inj]

@[simp] theorem State.rawRead_rawWrite_self (s : State) (x : Word) (v : Byte) :
    (s.rawWrite x v).rawRead x = v := by
  simp [State.rawRead_rawWrite]

/-! ### The canonical form, as a predicate on lists -/

/-- The canonical form says: every cell in range and not 0, addresses strictly rising. -/
theorem Memory.wf_iff (m : Memory) :
    Memory.wf m = true ↔
      (∀ cell ∈ m, cell.1 < 0x10000 ∧ cell.2 ≠ 0) ∧ m.Pairwise (fun p q => p.1 < q.1) := by
  induction m with
  | nil => simp [wf]
  | cons cell m ih =>
    obtain ⟨k, v⟩ := cell
    cases m with
    | nil => simp [wf]
    | cons cell' m =>
      obtain ⟨k', v'⟩ := cell'
      have step : Memory.wf ((k, v) :: (k', v') :: m) = true ↔
          (k < k' ∧ v ≠ 0) ∧ Memory.wf ((k', v') :: m) = true := by
        simp [wf]
      rw [step, ih, List.pairwise_cons (a := (k, v)) (l := (k', v') :: m)]
      constructor
      · rintro ⟨⟨hlt, hv⟩, hall, hpw⟩
        have hk' := (hall (k', v') (by simp)).1
        refine ⟨?_, ?_, hpw⟩
        · intro c hc
          rcases List.mem_cons.mp hc with rfl | hc
          · exact ⟨by simp only at hk' ⊢; omega, hv⟩
          · exact hall c hc
        · intro c hc
          rcases List.mem_cons.mp hc with rfl | hc
          · exact hlt
          · have := List.rel_of_pairwise_cons hpw hc
            simp only at this ⊢; omega
      · rintro ⟨hall, hlt, hpw⟩
        exact ⟨⟨hlt (k', v') (by simp), (hall (k, v) (by simp)).2⟩,
          fun c hc => hall c (List.mem_cons_of_mem _ hc), hpw⟩

theorem Memory.mem_insertCell (m : Memory) (k : Nat) (v : Byte) (c : Host.Cell) :
    c ∈ Memory.insertCell m k v ↔ c = (k, v) ∨ c ∈ m := by
  induction m with
  | nil => simp [insertCell]
  | cons cell m ih =>
    unfold insertCell
    split
    · simp
    · simp only [List.mem_cons, ih]; tauto

theorem Memory.pairwise_insertCell (m : Memory) (k : Nat) (v : Byte)
    (hk : ∀ cell ∈ m, cell.1 ≠ k) (h : m.Pairwise (fun p q => p.1 < q.1)) :
    (Memory.insertCell m k v).Pairwise (fun p q => p.1 < q.1) := by
  induction m with
  | nil => simp [insertCell]
  | cons cell m ih =>
    obtain ⟨k', v'⟩ := cell
    have hpw := List.pairwise_cons.mp h
    have hne : k' ≠ k := hk (k', v') (by simp)
    unfold insertCell
    split
    · rename_i hlt
      refine List.pairwise_cons.mpr ⟨?_, h⟩
      intro c hc
      rcases List.mem_cons.mp hc with rfl | hc
      · exact hlt
      · have := hpw.1 c hc
        simp only at this ⊢; omega
    · refine List.pairwise_cons.mpr ⟨?_, ih (fun c hc => hk c (List.mem_cons_of_mem _ hc)) hpw.2⟩
      intro c hc
      rcases (mem_insertCell m k v c).mp hc with rfl | hc
      · simp only; omega
      · exact hpw.1 c hc

/-- A write keeps the canonical form. -/
theorem Memory.wf_write (m : Memory) (k : Nat) (v : Byte) (hk : k < 0x10000) (h : Memory.wf m = true) :
    Memory.wf (Memory.write m k v) = true := by
  rw [wf_iff] at h ⊢
  have hall : ∀ cell ∈ m.filter (fun cell => cell.1 != k), cell.1 < 0x10000 ∧ cell.2 ≠ 0 :=
    fun c hc => h.1 c (List.mem_filter.mp hc).1
  have hpw := h.2.filter (fun cell => cell.1 != k)
  unfold write
  by_cases hv : v = 0
  · rw [if_pos hv]; exact ⟨hall, hpw⟩
  · rw [if_neg hv]
    refine ⟨?_, pairwise_insertCell _ _ _ (by simp) hpw⟩
    intro c hc
    rcases (mem_insertCell _ _ _ _).mp hc with rfl | hc
    · exact ⟨hk, hv⟩
    · exact hall c hc

theorem State.wf_rawWrite (s : State) (x : Word) (v : Byte) (h : Memory.wf s.mem = true) :
    Memory.wf (s.rawWrite x v).mem = true :=
  Memory.wf_write _ _ _ x.isLt h

/-- The memory right after reset is in canonical form. -/
theorem Memory.wf_reset : Memory.wf State.reset.mem = true := rfl

end Sys2Proof.Machine
end

