-- ==== Sys2Proof/Laws/State.lean ====
section
/-! SUPPORT. One lemma for each field and each update of the state: what the update leaves, and what it
writes. With them a proof reads a field of an updated state without unfolding the update. -/

namespace Sys2Proof.Machine

/-! ### rawWrite -/

@[simp] theorem State.rawWrite_a (s : State) (x : Word) (v : Byte) : (s.rawWrite x v).a = s.a := rfl
@[simp] theorem State.rawWrite_b (s : State) (x : Word) (v : Byte) : (s.rawWrite x v).b = s.b := rfl
@[simp] theorem State.rawWrite_c (s : State) (x : Word) (v : Byte) : (s.rawWrite x v).c = s.c := rfl
@[simp] theorem State.rawWrite_d (s : State) (x : Word) (v : Byte) : (s.rawWrite x v).d = s.d := rfl
@[simp] theorem State.rawWrite_e (s : State) (x : Word) (v : Byte) : (s.rawWrite x v).e = s.e := rfl
@[simp] theorem State.rawWrite_h (s : State) (x : Word) (v : Byte) : (s.rawWrite x v).h = s.h := rfl
@[simp] theorem State.rawWrite_l (s : State) (x : Word) (v : Byte) : (s.rawWrite x v).l = s.l := rfl
@[simp] theorem State.rawWrite_f (s : State) (x : Word) (v : Byte) : (s.rawWrite x v).f = s.f := rfl
@[simp] theorem State.rawWrite_sp (s : State) (x : Word) (v : Byte) : (s.rawWrite x v).sp = s.sp := rfl
@[simp] theorem State.rawWrite_pc (s : State) (x : Word) (v : Byte) : (s.rawWrite x v).pc = s.pc := rfl
@[simp] theorem State.rawWrite_mem (s : State) (x : Word) (v : Byte) : (s.rawWrite x v).mem = Memory.write s.mem x.toNat v := rfl
@[simp] theorem State.rawWrite_div (s : State) (x : Word) (v : Byte) : (s.rawWrite x v).div = s.div := rfl
@[simp] theorem State.rawWrite_overflow (s : State) (x : Word) (v : Byte) : (s.rawWrite x v).overflow = s.overflow := rfl
@[simp] theorem State.rawWrite_dma (s : State) (x : Word) (v : Byte) : (s.rawWrite x v).dma = s.dma := rfl
@[simp] theorem State.rawWrite_ime (s : State) (x : Word) (v : Byte) : (s.rawWrite x v).ime = s.ime := rfl
@[simp] theorem State.rawWrite_scheduledIme (s : State) (x : Word) (v : Byte) : (s.rawWrite x v).scheduledIme = s.scheduledIme := rfl
@[simp] theorem State.rawWrite_halted (s : State) (x : Word) (v : Byte) : (s.rawWrite x v).halted = s.halted := rfl
@[simp] theorem State.rawWrite_fault (s : State) (x : Word) (v : Byte) : (s.rawWrite x v).fault = s.fault := rfl
@[simp] theorem State.rawWrite_serialOut (s : State) (x : Word) (v : Byte) : (s.rawWrite x v).serialOut = s.serialOut := rfl
@[simp] theorem State.rawWrite_wroteSchedule (s : State) (x : Word) (v : Byte) : (s.rawWrite x v).wroteSchedule = s.wroteSchedule := rfl
@[simp] theorem State.rawWrite_cycles (s : State) (x : Word) (v : Byte) : (s.rawWrite x v).cycles = s.cycles := rfl
@[simp] theorem State.rawWrite_phase (s : State) (x : Word) (v : Byte) : (s.rawWrite x v).phase = s.phase := rfl
@[simp] theorem State.rawWrite_line (s : State) (x : Word) (v : Byte) : (s.rawWrite x v).line = s.line := rfl
@[simp] theorem State.rawWrite_budget (s : State) (x : Word) (v : Byte) : (s.rawWrite x v).budget = s.budget := rfl
@[simp] theorem State.rawWrite_scanline (s : State) (x : Word) (v : Byte) : (s.rawWrite x v).scanline = s.scanline := rfl
@[simp] theorem State.rawWrite_cfg (s : State) (x : Word) (v : Byte) : (s.rawWrite x v).cfg = s.cfg := rfl

/-! ### setFlags -/

@[simp] theorem State.setFlags_a (s : State) (g : Flags) : (s.setFlags g).a = s.a := rfl
@[simp] theorem State.setFlags_b (s : State) (g : Flags) : (s.setFlags g).b = s.b := rfl
@[simp] theorem State.setFlags_c (s : State) (g : Flags) : (s.setFlags g).c = s.c := rfl
@[simp] theorem State.setFlags_d (s : State) (g : Flags) : (s.setFlags g).d = s.d := rfl
@[simp] theorem State.setFlags_e (s : State) (g : Flags) : (s.setFlags g).e = s.e := rfl
@[simp] theorem State.setFlags_h (s : State) (g : Flags) : (s.setFlags g).h = s.h := rfl
@[simp] theorem State.setFlags_l (s : State) (g : Flags) : (s.setFlags g).l = s.l := rfl
@[simp] theorem State.setFlags_f (s : State) (g : Flags) : (s.setFlags g).f = g := rfl
@[simp] theorem State.setFlags_sp (s : State) (g : Flags) : (s.setFlags g).sp = s.sp := rfl
@[simp] theorem State.setFlags_pc (s : State) (g : Flags) : (s.setFlags g).pc = s.pc := rfl
@[simp] theorem State.setFlags_mem (s : State) (g : Flags) : (s.setFlags g).mem = s.mem := rfl
@[simp] theorem State.setFlags_div (s : State) (g : Flags) : (s.setFlags g).div = s.div := rfl
@[simp] theorem State.setFlags_overflow (s : State) (g : Flags) : (s.setFlags g).overflow = s.overflow := rfl
@[simp] theorem State.setFlags_dma (s : State) (g : Flags) : (s.setFlags g).dma = s.dma := rfl
@[simp] theorem State.setFlags_ime (s : State) (g : Flags) : (s.setFlags g).ime = s.ime := rfl
@[simp] theorem State.setFlags_scheduledIme (s : State) (g : Flags) : (s.setFlags g).scheduledIme = s.scheduledIme := rfl
@[simp] theorem State.setFlags_halted (s : State) (g : Flags) : (s.setFlags g).halted = s.halted := rfl
@[simp] theorem State.setFlags_fault (s : State) (g : Flags) : (s.setFlags g).fault = s.fault := rfl
@[simp] theorem State.setFlags_serialOut (s : State) (g : Flags) : (s.setFlags g).serialOut = s.serialOut := rfl
@[simp] theorem State.setFlags_wroteSchedule (s : State) (g : Flags) : (s.setFlags g).wroteSchedule = s.wroteSchedule := rfl
@[simp] theorem State.setFlags_cycles (s : State) (g : Flags) : (s.setFlags g).cycles = s.cycles := rfl
@[simp] theorem State.setFlags_phase (s : State) (g : Flags) : (s.setFlags g).phase = s.phase := rfl
@[simp] theorem State.setFlags_line (s : State) (g : Flags) : (s.setFlags g).line = s.line := rfl
@[simp] theorem State.setFlags_budget (s : State) (g : Flags) : (s.setFlags g).budget = s.budget := rfl
@[simp] theorem State.setFlags_scanline (s : State) (g : Flags) : (s.setFlags g).scanline = s.scanline := rfl
@[simp] theorem State.setFlags_cfg (s : State) (g : Flags) : (s.setFlags g).cfg = s.cfg := rfl

/-! ### setPc -/

@[simp] theorem State.setPc_a (s : State) (x : Word) : (s.setPc x).a = s.a := rfl
@[simp] theorem State.setPc_b (s : State) (x : Word) : (s.setPc x).b = s.b := rfl
@[simp] theorem State.setPc_c (s : State) (x : Word) : (s.setPc x).c = s.c := rfl
@[simp] theorem State.setPc_d (s : State) (x : Word) : (s.setPc x).d = s.d := rfl
@[simp] theorem State.setPc_e (s : State) (x : Word) : (s.setPc x).e = s.e := rfl
@[simp] theorem State.setPc_h (s : State) (x : Word) : (s.setPc x).h = s.h := rfl
@[simp] theorem State.setPc_l (s : State) (x : Word) : (s.setPc x).l = s.l := rfl
@[simp] theorem State.setPc_f (s : State) (x : Word) : (s.setPc x).f = s.f := rfl
@[simp] theorem State.setPc_sp (s : State) (x : Word) : (s.setPc x).sp = s.sp := rfl
@[simp] theorem State.setPc_pc (s : State) (x : Word) : (s.setPc x).pc = x := rfl
@[simp] theorem State.setPc_mem (s : State) (x : Word) : (s.setPc x).mem = s.mem := rfl
@[simp] theorem State.setPc_div (s : State) (x : Word) : (s.setPc x).div = s.div := rfl
@[simp] theorem State.setPc_overflow (s : State) (x : Word) : (s.setPc x).overflow = s.overflow := rfl
@[simp] theorem State.setPc_dma (s : State) (x : Word) : (s.setPc x).dma = s.dma := rfl
@[simp] theorem State.setPc_ime (s : State) (x : Word) : (s.setPc x).ime = s.ime := rfl
@[simp] theorem State.setPc_scheduledIme (s : State) (x : Word) : (s.setPc x).scheduledIme = s.scheduledIme := rfl
@[simp] theorem State.setPc_halted (s : State) (x : Word) : (s.setPc x).halted = s.halted := rfl
@[simp] theorem State.setPc_fault (s : State) (x : Word) : (s.setPc x).fault = s.fault := rfl
@[simp] theorem State.setPc_serialOut (s : State) (x : Word) : (s.setPc x).serialOut = s.serialOut := rfl
@[simp] theorem State.setPc_wroteSchedule (s : State) (x : Word) : (s.setPc x).wroteSchedule = s.wroteSchedule := rfl
@[simp] theorem State.setPc_cycles (s : State) (x : Word) : (s.setPc x).cycles = s.cycles := rfl
@[simp] theorem State.setPc_phase (s : State) (x : Word) : (s.setPc x).phase = s.phase := rfl
@[simp] theorem State.setPc_line (s : State) (x : Word) : (s.setPc x).line = s.line := rfl
@[simp] theorem State.setPc_budget (s : State) (x : Word) : (s.setPc x).budget = s.budget := rfl
@[simp] theorem State.setPc_scanline (s : State) (x : Word) : (s.setPc x).scanline = s.scanline := rfl
@[simp] theorem State.setPc_cfg (s : State) (x : Word) : (s.setPc x).cfg = s.cfg := rfl

/-! ### jumpRelative -/

@[simp] theorem State.jumpRelative_a (s : State) (x : Byte) : (s.jumpRelative x).a = s.a := rfl
@[simp] theorem State.jumpRelative_b (s : State) (x : Byte) : (s.jumpRelative x).b = s.b := rfl
@[simp] theorem State.jumpRelative_c (s : State) (x : Byte) : (s.jumpRelative x).c = s.c := rfl
@[simp] theorem State.jumpRelative_d (s : State) (x : Byte) : (s.jumpRelative x).d = s.d := rfl
@[simp] theorem State.jumpRelative_e (s : State) (x : Byte) : (s.jumpRelative x).e = s.e := rfl
@[simp] theorem State.jumpRelative_h (s : State) (x : Byte) : (s.jumpRelative x).h = s.h := rfl
@[simp] theorem State.jumpRelative_l (s : State) (x : Byte) : (s.jumpRelative x).l = s.l := rfl
@[simp] theorem State.jumpRelative_f (s : State) (x : Byte) : (s.jumpRelative x).f = s.f := rfl
@[simp] theorem State.jumpRelative_sp (s : State) (x : Byte) : (s.jumpRelative x).sp = s.sp := rfl
@[simp] theorem State.jumpRelative_pc (s : State) (x : Byte) : (s.jumpRelative x).pc = s.pc + sext16 x := rfl
@[simp] theorem State.jumpRelative_mem (s : State) (x : Byte) : (s.jumpRelative x).mem = s.mem := rfl
@[simp] theorem State.jumpRelative_div (s : State) (x : Byte) : (s.jumpRelative x).div = s.div := rfl
@[simp] theorem State.jumpRelative_overflow (s : State) (x : Byte) : (s.jumpRelative x).overflow = s.overflow := rfl
@[simp] theorem State.jumpRelative_dma (s : State) (x : Byte) : (s.jumpRelative x).dma = s.dma := rfl
@[simp] theorem State.jumpRelative_ime (s : State) (x : Byte) : (s.jumpRelative x).ime = s.ime := rfl
@[simp] theorem State.jumpRelative_scheduledIme (s : State) (x : Byte) : (s.jumpRelative x).scheduledIme = s.scheduledIme := rfl
@[simp] theorem State.jumpRelative_halted (s : State) (x : Byte) : (s.jumpRelative x).halted = s.halted := rfl
@[simp] theorem State.jumpRelative_fault (s : State) (x : Byte) : (s.jumpRelative x).fault = s.fault := rfl
@[simp] theorem State.jumpRelative_serialOut (s : State) (x : Byte) : (s.jumpRelative x).serialOut = s.serialOut := rfl
@[simp] theorem State.jumpRelative_wroteSchedule (s : State) (x : Byte) : (s.jumpRelative x).wroteSchedule = s.wroteSchedule := rfl
@[simp] theorem State.jumpRelative_cycles (s : State) (x : Byte) : (s.jumpRelative x).cycles = s.cycles := rfl
@[simp] theorem State.jumpRelative_phase (s : State) (x : Byte) : (s.jumpRelative x).phase = s.phase := rfl
@[simp] theorem State.jumpRelative_line (s : State) (x : Byte) : (s.jumpRelative x).line = s.line := rfl
@[simp] theorem State.jumpRelative_budget (s : State) (x : Byte) : (s.jumpRelative x).budget = s.budget := rfl
@[simp] theorem State.jumpRelative_scanline (s : State) (x : Byte) : (s.jumpRelative x).scanline = s.scanline := rfl
@[simp] theorem State.jumpRelative_cfg (s : State) (x : Byte) : (s.jumpRelative x).cfg = s.cfg := rfl

/-! ### returns -/

@[simp] theorem State.returns_a (s : State) (n : Nat) : (s.returns n).a = s.a := rfl
@[simp] theorem State.returns_b (s : State) (n : Nat) : (s.returns n).b = s.b := rfl
@[simp] theorem State.returns_c (s : State) (n : Nat) : (s.returns n).c = s.c := rfl
@[simp] theorem State.returns_d (s : State) (n : Nat) : (s.returns n).d = s.d := rfl
@[simp] theorem State.returns_e (s : State) (n : Nat) : (s.returns n).e = s.e := rfl
@[simp] theorem State.returns_h (s : State) (n : Nat) : (s.returns n).h = s.h := rfl
@[simp] theorem State.returns_l (s : State) (n : Nat) : (s.returns n).l = s.l := rfl
@[simp] theorem State.returns_f (s : State) (n : Nat) : (s.returns n).f = s.f := rfl
@[simp] theorem State.returns_sp (s : State) (n : Nat) : (s.returns n).sp = s.sp := rfl
@[simp] theorem State.returns_pc (s : State) (n : Nat) : (s.returns n).pc = s.pc := rfl
@[simp] theorem State.returns_mem (s : State) (n : Nat) : (s.returns n).mem = s.mem := rfl
@[simp] theorem State.returns_div (s : State) (n : Nat) : (s.returns n).div = s.div := rfl
@[simp] theorem State.returns_overflow (s : State) (n : Nat) : (s.returns n).overflow = s.overflow := rfl
@[simp] theorem State.returns_dma (s : State) (n : Nat) : (s.returns n).dma = s.dma := rfl
@[simp] theorem State.returns_ime (s : State) (n : Nat) : (s.returns n).ime = s.ime := rfl
@[simp] theorem State.returns_scheduledIme (s : State) (n : Nat) : (s.returns n).scheduledIme = s.scheduledIme := rfl
@[simp] theorem State.returns_halted (s : State) (n : Nat) : (s.returns n).halted = s.halted := rfl
@[simp] theorem State.returns_fault (s : State) (n : Nat) : (s.returns n).fault = s.fault := rfl
@[simp] theorem State.returns_serialOut (s : State) (n : Nat) : (s.returns n).serialOut = s.serialOut := rfl
@[simp] theorem State.returns_wroteSchedule (s : State) (n : Nat) : (s.returns n).wroteSchedule = s.wroteSchedule := rfl
@[simp] theorem State.returns_cycles (s : State) (n : Nat) : (s.returns n).cycles = some n := rfl
@[simp] theorem State.returns_phase (s : State) (n : Nat) : (s.returns n).phase = s.phase := rfl
@[simp] theorem State.returns_line (s : State) (n : Nat) : (s.returns n).line = s.line := rfl
@[simp] theorem State.returns_budget (s : State) (n : Nat) : (s.returns n).budget = s.budget := rfl
@[simp] theorem State.returns_scanline (s : State) (n : Nat) : (s.returns n).scanline = s.scanline := rfl
@[simp] theorem State.returns_cfg (s : State) (n : Nat) : (s.returns n).cfg = s.cfg := rfl

/-! ### scheduleIme -/

@[simp] theorem State.scheduleIme_a (s : State) (v : Bool) : (s.scheduleIme v).a = s.a := rfl
@[simp] theorem State.scheduleIme_b (s : State) (v : Bool) : (s.scheduleIme v).b = s.b := rfl
@[simp] theorem State.scheduleIme_c (s : State) (v : Bool) : (s.scheduleIme v).c = s.c := rfl
@[simp] theorem State.scheduleIme_d (s : State) (v : Bool) : (s.scheduleIme v).d = s.d := rfl
@[simp] theorem State.scheduleIme_e (s : State) (v : Bool) : (s.scheduleIme v).e = s.e := rfl
@[simp] theorem State.scheduleIme_h (s : State) (v : Bool) : (s.scheduleIme v).h = s.h := rfl
@[simp] theorem State.scheduleIme_l (s : State) (v : Bool) : (s.scheduleIme v).l = s.l := rfl
@[simp] theorem State.scheduleIme_f (s : State) (v : Bool) : (s.scheduleIme v).f = s.f := rfl
@[simp] theorem State.scheduleIme_sp (s : State) (v : Bool) : (s.scheduleIme v).sp = s.sp := rfl
@[simp] theorem State.scheduleIme_pc (s : State) (v : Bool) : (s.scheduleIme v).pc = s.pc := rfl
@[simp] theorem State.scheduleIme_mem (s : State) (v : Bool) : (s.scheduleIme v).mem = s.mem := rfl
@[simp] theorem State.scheduleIme_div (s : State) (v : Bool) : (s.scheduleIme v).div = s.div := rfl
@[simp] theorem State.scheduleIme_overflow (s : State) (v : Bool) : (s.scheduleIme v).overflow = s.overflow := rfl
@[simp] theorem State.scheduleIme_dma (s : State) (v : Bool) : (s.scheduleIme v).dma = s.dma := rfl
@[simp] theorem State.scheduleIme_ime (s : State) (v : Bool) : (s.scheduleIme v).ime = s.ime := rfl
@[simp] theorem State.scheduleIme_scheduledIme (s : State) (v : Bool) : (s.scheduleIme v).scheduledIme = v := rfl
@[simp] theorem State.scheduleIme_halted (s : State) (v : Bool) : (s.scheduleIme v).halted = s.halted := rfl
@[simp] theorem State.scheduleIme_fault (s : State) (v : Bool) : (s.scheduleIme v).fault = s.fault := rfl
@[simp] theorem State.scheduleIme_serialOut (s : State) (v : Bool) : (s.scheduleIme v).serialOut = s.serialOut := rfl
@[simp] theorem State.scheduleIme_wroteSchedule (s : State) (v : Bool) : (s.scheduleIme v).wroteSchedule = true := rfl
@[simp] theorem State.scheduleIme_cycles (s : State) (v : Bool) : (s.scheduleIme v).cycles = s.cycles := rfl
@[simp] theorem State.scheduleIme_phase (s : State) (v : Bool) : (s.scheduleIme v).phase = s.phase := rfl
@[simp] theorem State.scheduleIme_line (s : State) (v : Bool) : (s.scheduleIme v).line = s.line := rfl
@[simp] theorem State.scheduleIme_budget (s : State) (v : Bool) : (s.scheduleIme v).budget = s.budget := rfl
@[simp] theorem State.scheduleIme_scanline (s : State) (v : Bool) : (s.scheduleIme v).scanline = s.scanline := rfl
@[simp] theorem State.scheduleIme_cfg (s : State) (v : Bool) : (s.scheduleIme v).cfg = s.cfg := rfl

/-! ### raise -/

@[simp] theorem State.raise_a (s : State) (r : ErrorRecord) : (s.raise r).a = s.a := rfl
@[simp] theorem State.raise_b (s : State) (r : ErrorRecord) : (s.raise r).b = s.b := rfl
@[simp] theorem State.raise_c (s : State) (r : ErrorRecord) : (s.raise r).c = s.c := rfl
@[simp] theorem State.raise_d (s : State) (r : ErrorRecord) : (s.raise r).d = s.d := rfl
@[simp] theorem State.raise_e (s : State) (r : ErrorRecord) : (s.raise r).e = s.e := rfl
@[simp] theorem State.raise_h (s : State) (r : ErrorRecord) : (s.raise r).h = s.h := rfl
@[simp] theorem State.raise_l (s : State) (r : ErrorRecord) : (s.raise r).l = s.l := rfl
@[simp] theorem State.raise_f (s : State) (r : ErrorRecord) : (s.raise r).f = s.f := rfl
@[simp] theorem State.raise_sp (s : State) (r : ErrorRecord) : (s.raise r).sp = s.sp := rfl
@[simp] theorem State.raise_pc (s : State) (r : ErrorRecord) : (s.raise r).pc = s.pc := rfl
@[simp] theorem State.raise_mem (s : State) (r : ErrorRecord) : (s.raise r).mem = s.mem := rfl
@[simp] theorem State.raise_div (s : State) (r : ErrorRecord) : (s.raise r).div = s.div := rfl
@[simp] theorem State.raise_overflow (s : State) (r : ErrorRecord) : (s.raise r).overflow = s.overflow := rfl
@[simp] theorem State.raise_dma (s : State) (r : ErrorRecord) : (s.raise r).dma = s.dma := rfl
@[simp] theorem State.raise_ime (s : State) (r : ErrorRecord) : (s.raise r).ime = s.ime := rfl
@[simp] theorem State.raise_scheduledIme (s : State) (r : ErrorRecord) : (s.raise r).scheduledIme = s.scheduledIme := rfl
@[simp] theorem State.raise_halted (s : State) (r : ErrorRecord) : (s.raise r).halted = s.halted := rfl
@[simp] theorem State.raise_fault (s : State) (r : ErrorRecord) : (s.raise r).fault = some r := rfl
@[simp] theorem State.raise_serialOut (s : State) (r : ErrorRecord) : (s.raise r).serialOut = s.serialOut := rfl
@[simp] theorem State.raise_wroteSchedule (s : State) (r : ErrorRecord) : (s.raise r).wroteSchedule = s.wroteSchedule := rfl
@[simp] theorem State.raise_cycles (s : State) (r : ErrorRecord) : (s.raise r).cycles = none := rfl
@[simp] theorem State.raise_phase (s : State) (r : ErrorRecord) : (s.raise r).phase = s.phase := rfl
@[simp] theorem State.raise_line (s : State) (r : ErrorRecord) : (s.raise r).line = s.line := rfl
@[simp] theorem State.raise_budget (s : State) (r : ErrorRecord) : (s.raise r).budget = s.budget := rfl
@[simp] theorem State.raise_scanline (s : State) (r : ErrorRecord) : (s.raise r).scanline = s.scanline := rfl
@[simp] theorem State.raise_cfg (s : State) (r : ErrorRecord) : (s.raise r).cfg = s.cfg := rfl

/-! ### popped -/

@[simp] theorem State.popped_a (s : State) : (s.popped).a = s.a := rfl
@[simp] theorem State.popped_b (s : State) : (s.popped).b = s.b := rfl
@[simp] theorem State.popped_c (s : State) : (s.popped).c = s.c := rfl
@[simp] theorem State.popped_d (s : State) : (s.popped).d = s.d := rfl
@[simp] theorem State.popped_e (s : State) : (s.popped).e = s.e := rfl
@[simp] theorem State.popped_h (s : State) : (s.popped).h = s.h := rfl
@[simp] theorem State.popped_l (s : State) : (s.popped).l = s.l := rfl
@[simp] theorem State.popped_f (s : State) : (s.popped).f = s.f := rfl
@[simp] theorem State.popped_sp (s : State) : (s.popped).sp = s.sp + 2 := rfl
@[simp] theorem State.popped_pc (s : State) : (s.popped).pc = s.pc := rfl
@[simp] theorem State.popped_mem (s : State) : (s.popped).mem = s.mem := rfl
@[simp] theorem State.popped_div (s : State) : (s.popped).div = s.div := rfl
@[simp] theorem State.popped_overflow (s : State) : (s.popped).overflow = s.overflow := rfl
@[simp] theorem State.popped_dma (s : State) : (s.popped).dma = s.dma := rfl
@[simp] theorem State.popped_ime (s : State) : (s.popped).ime = s.ime := rfl
@[simp] theorem State.popped_scheduledIme (s : State) : (s.popped).scheduledIme = s.scheduledIme := rfl
@[simp] theorem State.popped_halted (s : State) : (s.popped).halted = s.halted := rfl
@[simp] theorem State.popped_fault (s : State) : (s.popped).fault = s.fault := rfl
@[simp] theorem State.popped_serialOut (s : State) : (s.popped).serialOut = s.serialOut := rfl
@[simp] theorem State.popped_wroteSchedule (s : State) : (s.popped).wroteSchedule = s.wroteSchedule := rfl
@[simp] theorem State.popped_cycles (s : State) : (s.popped).cycles = s.cycles := rfl
@[simp] theorem State.popped_phase (s : State) : (s.popped).phase = s.phase := rfl
@[simp] theorem State.popped_line (s : State) : (s.popped).line = s.line := rfl
@[simp] theorem State.popped_budget (s : State) : (s.popped).budget = s.budget := rfl
@[simp] theorem State.popped_scanline (s : State) : (s.popped).scanline = s.scanline := rfl
@[simp] theorem State.popped_cfg (s : State) : (s.popped).cfg = s.cfg := rfl

/-! ### setHl -/

@[simp] theorem State.setHl_a (s : State) (v : Word) : (s.setHl v).a = s.a := rfl
@[simp] theorem State.setHl_b (s : State) (v : Word) : (s.setHl v).b = s.b := rfl
@[simp] theorem State.setHl_c (s : State) (v : Word) : (s.setHl v).c = s.c := rfl
@[simp] theorem State.setHl_d (s : State) (v : Word) : (s.setHl v).d = s.d := rfl
@[simp] theorem State.setHl_e (s : State) (v : Word) : (s.setHl v).e = s.e := rfl
@[simp] theorem State.setHl_h (s : State) (v : Word) : (s.setHl v).h = hi8 v := rfl
@[simp] theorem State.setHl_l (s : State) (v : Word) : (s.setHl v).l = lo8 v := rfl
@[simp] theorem State.setHl_f (s : State) (v : Word) : (s.setHl v).f = s.f := rfl
@[simp] theorem State.setHl_sp (s : State) (v : Word) : (s.setHl v).sp = s.sp := rfl
@[simp] theorem State.setHl_pc (s : State) (v : Word) : (s.setHl v).pc = s.pc := rfl
@[simp] theorem State.setHl_mem (s : State) (v : Word) : (s.setHl v).mem = s.mem := rfl
@[simp] theorem State.setHl_div (s : State) (v : Word) : (s.setHl v).div = s.div := rfl
@[simp] theorem State.setHl_overflow (s : State) (v : Word) : (s.setHl v).overflow = s.overflow := rfl
@[simp] theorem State.setHl_dma (s : State) (v : Word) : (s.setHl v).dma = s.dma := rfl
@[simp] theorem State.setHl_ime (s : State) (v : Word) : (s.setHl v).ime = s.ime := rfl
@[simp] theorem State.setHl_scheduledIme (s : State) (v : Word) : (s.setHl v).scheduledIme = s.scheduledIme := rfl
@[simp] theorem State.setHl_halted (s : State) (v : Word) : (s.setHl v).halted = s.halted := rfl
@[simp] theorem State.setHl_fault (s : State) (v : Word) : (s.setHl v).fault = s.fault := rfl
@[simp] theorem State.setHl_serialOut (s : State) (v : Word) : (s.setHl v).serialOut = s.serialOut := rfl
@[simp] theorem State.setHl_wroteSchedule (s : State) (v : Word) : (s.setHl v).wroteSchedule = s.wroteSchedule := rfl
@[simp] theorem State.setHl_cycles (s : State) (v : Word) : (s.setHl v).cycles = s.cycles := rfl
@[simp] theorem State.setHl_phase (s : State) (v : Word) : (s.setHl v).phase = s.phase := rfl
@[simp] theorem State.setHl_line (s : State) (v : Word) : (s.setHl v).line = s.line := rfl
@[simp] theorem State.setHl_budget (s : State) (v : Word) : (s.setHl v).budget = s.budget := rfl
@[simp] theorem State.setHl_scanline (s : State) (v : Word) : (s.setHl v).scanline = s.scanline := rfl
@[simp] theorem State.setHl_cfg (s : State) (v : Word) : (s.setHl v).cfg = s.cfg := rfl

/-! ### hlIncremented -/

@[simp] theorem State.hlIncremented_a (s : State) : (s.hlIncremented).a = s.a := rfl
@[simp] theorem State.hlIncremented_b (s : State) : (s.hlIncremented).b = s.b := rfl
@[simp] theorem State.hlIncremented_c (s : State) : (s.hlIncremented).c = s.c := rfl
@[simp] theorem State.hlIncremented_d (s : State) : (s.hlIncremented).d = s.d := rfl
@[simp] theorem State.hlIncremented_e (s : State) : (s.hlIncremented).e = s.e := rfl
@[simp] theorem State.hlIncremented_h (s : State) : (s.hlIncremented).h = hi8 (s.hl + 1) := rfl
@[simp] theorem State.hlIncremented_l (s : State) : (s.hlIncremented).l = lo8 (s.hl + 1) := rfl
@[simp] theorem State.hlIncremented_f (s : State) : (s.hlIncremented).f = s.f := rfl
@[simp] theorem State.hlIncremented_sp (s : State) : (s.hlIncremented).sp = s.sp := rfl
@[simp] theorem State.hlIncremented_pc (s : State) : (s.hlIncremented).pc = s.pc := rfl
@[simp] theorem State.hlIncremented_mem (s : State) : (s.hlIncremented).mem = s.mem := rfl
@[simp] theorem State.hlIncremented_div (s : State) : (s.hlIncremented).div = s.div := rfl
@[simp] theorem State.hlIncremented_overflow (s : State) : (s.hlIncremented).overflow = s.overflow := rfl
@[simp] theorem State.hlIncremented_dma (s : State) : (s.hlIncremented).dma = s.dma := rfl
@[simp] theorem State.hlIncremented_ime (s : State) : (s.hlIncremented).ime = s.ime := rfl
@[simp] theorem State.hlIncremented_scheduledIme (s : State) : (s.hlIncremented).scheduledIme = s.scheduledIme := rfl
@[simp] theorem State.hlIncremented_halted (s : State) : (s.hlIncremented).halted = s.halted := rfl
@[simp] theorem State.hlIncremented_fault (s : State) : (s.hlIncremented).fault = s.fault := rfl
@[simp] theorem State.hlIncremented_serialOut (s : State) : (s.hlIncremented).serialOut = s.serialOut := rfl
@[simp] theorem State.hlIncremented_wroteSchedule (s : State) : (s.hlIncremented).wroteSchedule = s.wroteSchedule := rfl
@[simp] theorem State.hlIncremented_cycles (s : State) : (s.hlIncremented).cycles = s.cycles := rfl
@[simp] theorem State.hlIncremented_phase (s : State) : (s.hlIncremented).phase = s.phase := rfl
@[simp] theorem State.hlIncremented_line (s : State) : (s.hlIncremented).line = s.line := rfl
@[simp] theorem State.hlIncremented_budget (s : State) : (s.hlIncremented).budget = s.budget := rfl
@[simp] theorem State.hlIncremented_scanline (s : State) : (s.hlIncremented).scanline = s.scanline := rfl
@[simp] theorem State.hlIncremented_cfg (s : State) : (s.hlIncremented).cfg = s.cfg := rfl

/-! ### hlDecremented -/

@[simp] theorem State.hlDecremented_a (s : State) : (s.hlDecremented).a = s.a := rfl
@[simp] theorem State.hlDecremented_b (s : State) : (s.hlDecremented).b = s.b := rfl
@[simp] theorem State.hlDecremented_c (s : State) : (s.hlDecremented).c = s.c := rfl
@[simp] theorem State.hlDecremented_d (s : State) : (s.hlDecremented).d = s.d := rfl
@[simp] theorem State.hlDecremented_e (s : State) : (s.hlDecremented).e = s.e := rfl
@[simp] theorem State.hlDecremented_h (s : State) : (s.hlDecremented).h = hi8 (s.hl - 1) := rfl
@[simp] theorem State.hlDecremented_l (s : State) : (s.hlDecremented).l = lo8 (s.hl - 1) := rfl
@[simp] theorem State.hlDecremented_f (s : State) : (s.hlDecremented).f = s.f := rfl
@[simp] theorem State.hlDecremented_sp (s : State) : (s.hlDecremented).sp = s.sp := rfl
@[simp] theorem State.hlDecremented_pc (s : State) : (s.hlDecremented).pc = s.pc := rfl
@[simp] theorem State.hlDecremented_mem (s : State) : (s.hlDecremented).mem = s.mem := rfl
@[simp] theorem State.hlDecremented_div (s : State) : (s.hlDecremented).div = s.div := rfl
@[simp] theorem State.hlDecremented_overflow (s : State) : (s.hlDecremented).overflow = s.overflow := rfl
@[simp] theorem State.hlDecremented_dma (s : State) : (s.hlDecremented).dma = s.dma := rfl
@[simp] theorem State.hlDecremented_ime (s : State) : (s.hlDecremented).ime = s.ime := rfl
@[simp] theorem State.hlDecremented_scheduledIme (s : State) : (s.hlDecremented).scheduledIme = s.scheduledIme := rfl
@[simp] theorem State.hlDecremented_halted (s : State) : (s.hlDecremented).halted = s.halted := rfl
@[simp] theorem State.hlDecremented_fault (s : State) : (s.hlDecremented).fault = s.fault := rfl
@[simp] theorem State.hlDecremented_serialOut (s : State) : (s.hlDecremented).serialOut = s.serialOut := rfl
@[simp] theorem State.hlDecremented_wroteSchedule (s : State) : (s.hlDecremented).wroteSchedule = s.wroteSchedule := rfl
@[simp] theorem State.hlDecremented_cycles (s : State) : (s.hlDecremented).cycles = s.cycles := rfl
@[simp] theorem State.hlDecremented_phase (s : State) : (s.hlDecremented).phase = s.phase := rfl
@[simp] theorem State.hlDecremented_line (s : State) : (s.hlDecremented).line = s.line := rfl
@[simp] theorem State.hlDecremented_budget (s : State) : (s.hlDecremented).budget = s.budget := rfl
@[simp] theorem State.hlDecremented_scanline (s : State) : (s.hlDecremented).scanline = s.scanline := rfl
@[simp] theorem State.hlDecremented_cfg (s : State) : (s.hlDecremented).cfg = s.cfg := rfl

/-! ### setReg -/

@[simp] theorem State.setReg_f (s : State) (r : Reg8) (v : Byte) : (s.setReg r v).f = s.f := by cases r <;> rfl
@[simp] theorem State.setReg_sp (s : State) (r : Reg8) (v : Byte) : (s.setReg r v).sp = s.sp := by cases r <;> rfl
@[simp] theorem State.setReg_pc (s : State) (r : Reg8) (v : Byte) : (s.setReg r v).pc = s.pc := by cases r <;> rfl
@[simp] theorem State.setReg_mem (s : State) (r : Reg8) (v : Byte) : (s.setReg r v).mem = s.mem := by cases r <;> rfl
@[simp] theorem State.setReg_div (s : State) (r : Reg8) (v : Byte) : (s.setReg r v).div = s.div := by cases r <;> rfl
@[simp] theorem State.setReg_overflow (s : State) (r : Reg8) (v : Byte) : (s.setReg r v).overflow = s.overflow := by cases r <;> rfl
@[simp] theorem State.setReg_dma (s : State) (r : Reg8) (v : Byte) : (s.setReg r v).dma = s.dma := by cases r <;> rfl
@[simp] theorem State.setReg_ime (s : State) (r : Reg8) (v : Byte) : (s.setReg r v).ime = s.ime := by cases r <;> rfl
@[simp] theorem State.setReg_scheduledIme (s : State) (r : Reg8) (v : Byte) : (s.setReg r v).scheduledIme = s.scheduledIme := by cases r <;> rfl
@[simp] theorem State.setReg_halted (s : State) (r : Reg8) (v : Byte) : (s.setReg r v).halted = s.halted := by cases r <;> rfl
@[simp] theorem State.setReg_fault (s : State) (r : Reg8) (v : Byte) : (s.setReg r v).fault = s.fault := by cases r <;> rfl
@[simp] theorem State.setReg_serialOut (s : State) (r : Reg8) (v : Byte) : (s.setReg r v).serialOut = s.serialOut := by cases r <;> rfl
@[simp] theorem State.setReg_wroteSchedule (s : State) (r : Reg8) (v : Byte) : (s.setReg r v).wroteSchedule = s.wroteSchedule := by cases r <;> rfl
@[simp] theorem State.setReg_cycles (s : State) (r : Reg8) (v : Byte) : (s.setReg r v).cycles = s.cycles := by cases r <;> rfl
@[simp] theorem State.setReg_phase (s : State) (r : Reg8) (v : Byte) : (s.setReg r v).phase = s.phase := by cases r <;> rfl
@[simp] theorem State.setReg_line (s : State) (r : Reg8) (v : Byte) : (s.setReg r v).line = s.line := by cases r <;> rfl
@[simp] theorem State.setReg_budget (s : State) (r : Reg8) (v : Byte) : (s.setReg r v).budget = s.budget := by cases r <;> rfl
@[simp] theorem State.setReg_scanline (s : State) (r : Reg8) (v : Byte) : (s.setReg r v).scanline = s.scanline := by cases r <;> rfl
@[simp] theorem State.setReg_cfg (s : State) (r : Reg8) (v : Byte) : (s.setReg r v).cfg = s.cfg := by cases r <;> rfl

/-! ### setPair -/

@[simp] theorem State.setPair_a (s : State) (p : Pair) (v : Word) : (s.setPair p v).a = s.a := by cases p <;> rfl
@[simp] theorem State.setPair_f (s : State) (p : Pair) (v : Word) : (s.setPair p v).f = s.f := by cases p <;> rfl
@[simp] theorem State.setPair_pc (s : State) (p : Pair) (v : Word) : (s.setPair p v).pc = s.pc := by cases p <;> rfl
@[simp] theorem State.setPair_mem (s : State) (p : Pair) (v : Word) : (s.setPair p v).mem = s.mem := by cases p <;> rfl
@[simp] theorem State.setPair_div (s : State) (p : Pair) (v : Word) : (s.setPair p v).div = s.div := by cases p <;> rfl
@[simp] theorem State.setPair_overflow (s : State) (p : Pair) (v : Word) : (s.setPair p v).overflow = s.overflow := by cases p <;> rfl
@[simp] theorem State.setPair_dma (s : State) (p : Pair) (v : Word) : (s.setPair p v).dma = s.dma := by cases p <;> rfl
@[simp] theorem State.setPair_ime (s : State) (p : Pair) (v : Word) : (s.setPair p v).ime = s.ime := by cases p <;> rfl
@[simp] theorem State.setPair_scheduledIme (s : State) (p : Pair) (v : Word) : (s.setPair p v).scheduledIme = s.scheduledIme := by cases p <;> rfl
@[simp] theorem State.setPair_halted (s : State) (p : Pair) (v : Word) : (s.setPair p v).halted = s.halted := by cases p <;> rfl
@[simp] theorem State.setPair_fault (s : State) (p : Pair) (v : Word) : (s.setPair p v).fault = s.fault := by cases p <;> rfl
@[simp] theorem State.setPair_serialOut (s : State) (p : Pair) (v : Word) : (s.setPair p v).serialOut = s.serialOut := by cases p <;> rfl
@[simp] theorem State.setPair_wroteSchedule (s : State) (p : Pair) (v : Word) : (s.setPair p v).wroteSchedule = s.wroteSchedule := by cases p <;> rfl
@[simp] theorem State.setPair_cycles (s : State) (p : Pair) (v : Word) : (s.setPair p v).cycles = s.cycles := by cases p <;> rfl
@[simp] theorem State.setPair_phase (s : State) (p : Pair) (v : Word) : (s.setPair p v).phase = s.phase := by cases p <;> rfl
@[simp] theorem State.setPair_line (s : State) (p : Pair) (v : Word) : (s.setPair p v).line = s.line := by cases p <;> rfl
@[simp] theorem State.setPair_budget (s : State) (p : Pair) (v : Word) : (s.setPair p v).budget = s.budget := by cases p <;> rfl
@[simp] theorem State.setPair_scanline (s : State) (p : Pair) (v : Word) : (s.setPair p v).scanline = s.scanline := by cases p <;> rfl
@[simp] theorem State.setPair_cfg (s : State) (p : Pair) (v : Word) : (s.setPair p v).cfg = s.cfg := by cases p <;> rfl

/-! ### setStackPair -/

@[simp] theorem State.setStackPair_sp (s : State) (q : StackPair) (v : Word) : (s.setStackPair q v).sp = s.sp := by cases q <;> rfl
@[simp] theorem State.setStackPair_pc (s : State) (q : StackPair) (v : Word) : (s.setStackPair q v).pc = s.pc := by cases q <;> rfl
@[simp] theorem State.setStackPair_mem (s : State) (q : StackPair) (v : Word) : (s.setStackPair q v).mem = s.mem := by cases q <;> rfl
@[simp] theorem State.setStackPair_div (s : State) (q : StackPair) (v : Word) : (s.setStackPair q v).div = s.div := by cases q <;> rfl
@[simp] theorem State.setStackPair_overflow (s : State) (q : StackPair) (v : Word) : (s.setStackPair q v).overflow = s.overflow := by cases q <;> rfl
@[simp] theorem State.setStackPair_dma (s : State) (q : StackPair) (v : Word) : (s.setStackPair q v).dma = s.dma := by cases q <;> rfl
@[simp] theorem State.setStackPair_ime (s : State) (q : StackPair) (v : Word) : (s.setStackPair q v).ime = s.ime := by cases q <;> rfl
@[simp] theorem State.setStackPair_scheduledIme (s : State) (q : StackPair) (v : Word) : (s.setStackPair q v).scheduledIme = s.scheduledIme := by cases q <;> rfl
@[simp] theorem State.setStackPair_halted (s : State) (q : StackPair) (v : Word) : (s.setStackPair q v).halted = s.halted := by cases q <;> rfl
@[simp] theorem State.setStackPair_fault (s : State) (q : StackPair) (v : Word) : (s.setStackPair q v).fault = s.fault := by cases q <;> rfl
@[simp] theorem State.setStackPair_serialOut (s : State) (q : StackPair) (v : Word) : (s.setStackPair q v).serialOut = s.serialOut := by cases q <;> rfl
@[simp] theorem State.setStackPair_wroteSchedule (s : State) (q : StackPair) (v : Word) : (s.setStackPair q v).wroteSchedule = s.wroteSchedule := by cases q <;> rfl
@[simp] theorem State.setStackPair_cycles (s : State) (q : StackPair) (v : Word) : (s.setStackPair q v).cycles = s.cycles := by cases q <;> rfl
@[simp] theorem State.setStackPair_phase (s : State) (q : StackPair) (v : Word) : (s.setStackPair q v).phase = s.phase := by cases q <;> rfl
@[simp] theorem State.setStackPair_line (s : State) (q : StackPair) (v : Word) : (s.setStackPair q v).line = s.line := by cases q <;> rfl
@[simp] theorem State.setStackPair_budget (s : State) (q : StackPair) (v : Word) : (s.setStackPair q v).budget = s.budget := by cases q <;> rfl
@[simp] theorem State.setStackPair_scanline (s : State) (q : StackPair) (v : Word) : (s.setStackPair q v).scanline = s.scanline := by cases q <;> rfl
@[simp] theorem State.setStackPair_cfg (s : State) (q : StackPair) (v : Word) : (s.setStackPair q v).cfg = s.cfg := by cases q <;> rfl

/-! ### scheduleImeTimed -/

@[simp] theorem State.scheduleImeTimed_a (s : State) (v : Bool) : (s.scheduleImeTimed v).a = s.a := by unfold State.scheduleImeTimed; split <;> rfl
@[simp] theorem State.scheduleImeTimed_b (s : State) (v : Bool) : (s.scheduleImeTimed v).b = s.b := by unfold State.scheduleImeTimed; split <;> rfl
@[simp] theorem State.scheduleImeTimed_c (s : State) (v : Bool) : (s.scheduleImeTimed v).c = s.c := by unfold State.scheduleImeTimed; split <;> rfl
@[simp] theorem State.scheduleImeTimed_d (s : State) (v : Bool) : (s.scheduleImeTimed v).d = s.d := by unfold State.scheduleImeTimed; split <;> rfl
@[simp] theorem State.scheduleImeTimed_e (s : State) (v : Bool) : (s.scheduleImeTimed v).e = s.e := by unfold State.scheduleImeTimed; split <;> rfl
@[simp] theorem State.scheduleImeTimed_h (s : State) (v : Bool) : (s.scheduleImeTimed v).h = s.h := by unfold State.scheduleImeTimed; split <;> rfl
@[simp] theorem State.scheduleImeTimed_l (s : State) (v : Bool) : (s.scheduleImeTimed v).l = s.l := by unfold State.scheduleImeTimed; split <;> rfl
@[simp] theorem State.scheduleImeTimed_f (s : State) (v : Bool) : (s.scheduleImeTimed v).f = s.f := by unfold State.scheduleImeTimed; split <;> rfl
@[simp] theorem State.scheduleImeTimed_sp (s : State) (v : Bool) : (s.scheduleImeTimed v).sp = s.sp := by unfold State.scheduleImeTimed; split <;> rfl
@[simp] theorem State.scheduleImeTimed_pc (s : State) (v : Bool) : (s.scheduleImeTimed v).pc = s.pc := by unfold State.scheduleImeTimed; split <;> rfl
@[simp] theorem State.scheduleImeTimed_mem (s : State) (v : Bool) : (s.scheduleImeTimed v).mem = s.mem := by unfold State.scheduleImeTimed; split <;> rfl
@[simp] theorem State.scheduleImeTimed_div (s : State) (v : Bool) : (s.scheduleImeTimed v).div = s.div := by unfold State.scheduleImeTimed; split <;> rfl
@[simp] theorem State.scheduleImeTimed_overflow (s : State) (v : Bool) : (s.scheduleImeTimed v).overflow = s.overflow := by unfold State.scheduleImeTimed; split <;> rfl
@[simp] theorem State.scheduleImeTimed_dma (s : State) (v : Bool) : (s.scheduleImeTimed v).dma = s.dma := by unfold State.scheduleImeTimed; split <;> rfl
@[simp] theorem State.scheduleImeTimed_scheduledIme (s : State) (v : Bool) : (s.scheduleImeTimed v).scheduledIme = v := by unfold State.scheduleImeTimed; split <;> rfl
@[simp] theorem State.scheduleImeTimed_halted (s : State) (v : Bool) : (s.scheduleImeTimed v).halted = s.halted := by unfold State.scheduleImeTimed; split <;> rfl
@[simp] theorem State.scheduleImeTimed_fault (s : State) (v : Bool) : (s.scheduleImeTimed v).fault = s.fault := by unfold State.scheduleImeTimed; split <;> rfl
@[simp] theorem State.scheduleImeTimed_serialOut (s : State) (v : Bool) : (s.scheduleImeTimed v).serialOut = s.serialOut := by unfold State.scheduleImeTimed; split <;> rfl
@[simp] theorem State.scheduleImeTimed_wroteSchedule (s : State) (v : Bool) : (s.scheduleImeTimed v).wroteSchedule = true := by unfold State.scheduleImeTimed; split <;> rfl
@[simp] theorem State.scheduleImeTimed_cycles (s : State) (v : Bool) : (s.scheduleImeTimed v).cycles = s.cycles := by unfold State.scheduleImeTimed; split <;> rfl
@[simp] theorem State.scheduleImeTimed_phase (s : State) (v : Bool) : (s.scheduleImeTimed v).phase = s.phase := by unfold State.scheduleImeTimed; split <;> rfl
@[simp] theorem State.scheduleImeTimed_line (s : State) (v : Bool) : (s.scheduleImeTimed v).line = s.line := by unfold State.scheduleImeTimed; split <;> rfl
@[simp] theorem State.scheduleImeTimed_budget (s : State) (v : Bool) : (s.scheduleImeTimed v).budget = s.budget := by unfold State.scheduleImeTimed; split <;> rfl
@[simp] theorem State.scheduleImeTimed_scanline (s : State) (v : Bool) : (s.scheduleImeTimed v).scanline = s.scanline := by unfold State.scheduleImeTimed; split <;> rfl
@[simp] theorem State.scheduleImeTimed_cfg (s : State) (v : Bool) : (s.scheduleImeTimed v).cfg = s.cfg := by unfold State.scheduleImeTimed; split <;> rfl

/-! ### endStep -/

@[simp] theorem State.endStep_a (s : State) : (s.endStep).a = s.a := by unfold State.endStep; split <;> simp_all
@[simp] theorem State.endStep_b (s : State) : (s.endStep).b = s.b := by unfold State.endStep; split <;> simp_all
@[simp] theorem State.endStep_c (s : State) : (s.endStep).c = s.c := by unfold State.endStep; split <;> simp_all
@[simp] theorem State.endStep_d (s : State) : (s.endStep).d = s.d := by unfold State.endStep; split <;> simp_all
@[simp] theorem State.endStep_e (s : State) : (s.endStep).e = s.e := by unfold State.endStep; split <;> simp_all
@[simp] theorem State.endStep_h (s : State) : (s.endStep).h = s.h := by unfold State.endStep; split <;> simp_all
@[simp] theorem State.endStep_l (s : State) : (s.endStep).l = s.l := by unfold State.endStep; split <;> simp_all
@[simp] theorem State.endStep_f (s : State) : (s.endStep).f = s.f := by unfold State.endStep; split <;> simp_all
@[simp] theorem State.endStep_sp (s : State) : (s.endStep).sp = s.sp := by unfold State.endStep; split <;> simp_all
@[simp] theorem State.endStep_pc (s : State) : (s.endStep).pc = s.pc := by unfold State.endStep; split <;> simp_all
@[simp] theorem State.endStep_mem (s : State) : (s.endStep).mem = s.mem := by unfold State.endStep; split <;> simp_all
@[simp] theorem State.endStep_div (s : State) : (s.endStep).div = s.div := by unfold State.endStep; split <;> simp_all
@[simp] theorem State.endStep_overflow (s : State) : (s.endStep).overflow = s.overflow := by unfold State.endStep; split <;> simp_all
@[simp] theorem State.endStep_dma (s : State) : (s.endStep).dma = s.dma := by unfold State.endStep; split <;> simp_all
@[simp] theorem State.endStep_ime (s : State) : (s.endStep).ime = if s.wroteSchedule then s.ime else s.scheduledIme := by unfold State.endStep; split <;> simp_all
@[simp] theorem State.endStep_scheduledIme (s : State) : (s.endStep).scheduledIme = s.scheduledIme := by unfold State.endStep; split <;> simp_all
@[simp] theorem State.endStep_halted (s : State) : (s.endStep).halted = s.halted := by unfold State.endStep; split <;> simp_all
@[simp] theorem State.endStep_fault (s : State) : (s.endStep).fault = s.fault := by unfold State.endStep; split <;> simp_all
@[simp] theorem State.endStep_serialOut (s : State) : (s.endStep).serialOut = s.serialOut := by unfold State.endStep; split <;> simp_all
@[simp] theorem State.endStep_wroteSchedule (s : State) : (s.endStep).wroteSchedule = s.wroteSchedule := by unfold State.endStep; split <;> simp_all
@[simp] theorem State.endStep_cycles (s : State) : (s.endStep).cycles = s.cycles := by unfold State.endStep; split <;> simp_all
@[simp] theorem State.endStep_phase (s : State) : (s.endStep).phase = s.phase := by unfold State.endStep; split <;> simp_all
@[simp] theorem State.endStep_line (s : State) : (s.endStep).line = s.line := by unfold State.endStep; split <;> simp_all
@[simp] theorem State.endStep_budget (s : State) : (s.endStep).budget = s.budget := by unfold State.endStep; split <;> simp_all
@[simp] theorem State.endStep_scanline (s : State) : (s.endStep).scanline = s.scanline := by unfold State.endStep; split <;> simp_all
@[simp] theorem State.endStep_cfg (s : State) : (s.endStep).cfg = s.cfg := by unfold State.endStep; split <;> simp_all

/-! ### memWrite -/

@[simp] theorem State.memWrite_a (s : State) (x : Word) (v : Byte) : (s.memWrite x v).a = s.a := by
  unfold State.memWrite; split_ifs <;> rfl
@[simp] theorem State.memWrite_b (s : State) (x : Word) (v : Byte) : (s.memWrite x v).b = s.b := by
  unfold State.memWrite; split_ifs <;> rfl
@[simp] theorem State.memWrite_c (s : State) (x : Word) (v : Byte) : (s.memWrite x v).c = s.c := by
  unfold State.memWrite; split_ifs <;> rfl
@[simp] theorem State.memWrite_d (s : State) (x : Word) (v : Byte) : (s.memWrite x v).d = s.d := by
  unfold State.memWrite; split_ifs <;> rfl
@[simp] theorem State.memWrite_e (s : State) (x : Word) (v : Byte) : (s.memWrite x v).e = s.e := by
  unfold State.memWrite; split_ifs <;> rfl
@[simp] theorem State.memWrite_h (s : State) (x : Word) (v : Byte) : (s.memWrite x v).h = s.h := by
  unfold State.memWrite; split_ifs <;> rfl
@[simp] theorem State.memWrite_l (s : State) (x : Word) (v : Byte) : (s.memWrite x v).l = s.l := by
  unfold State.memWrite; split_ifs <;> rfl
@[simp] theorem State.memWrite_f (s : State) (x : Word) (v : Byte) : (s.memWrite x v).f = s.f := by
  unfold State.memWrite; split_ifs <;> rfl
@[simp] theorem State.memWrite_sp (s : State) (x : Word) (v : Byte) : (s.memWrite x v).sp = s.sp := by
  unfold State.memWrite; split_ifs <;> rfl
@[simp] theorem State.memWrite_pc (s : State) (x : Word) (v : Byte) : (s.memWrite x v).pc = s.pc := by
  unfold State.memWrite; split_ifs <;> rfl
@[simp] theorem State.memWrite_overflow (s : State) (x : Word) (v : Byte) : (s.memWrite x v).overflow = s.overflow := by
  unfold State.memWrite; split_ifs <;> rfl
@[simp] theorem State.memWrite_ime (s : State) (x : Word) (v : Byte) : (s.memWrite x v).ime = s.ime := by
  unfold State.memWrite; split_ifs <;> rfl
@[simp] theorem State.memWrite_scheduledIme (s : State) (x : Word) (v : Byte) : (s.memWrite x v).scheduledIme = s.scheduledIme := by
  unfold State.memWrite; split_ifs <;> rfl
@[simp] theorem State.memWrite_halted (s : State) (x : Word) (v : Byte) : (s.memWrite x v).halted = s.halted := by
  unfold State.memWrite; split_ifs <;> rfl
@[simp] theorem State.memWrite_fault (s : State) (x : Word) (v : Byte) : (s.memWrite x v).fault = s.fault := by
  unfold State.memWrite; split_ifs <;> rfl
@[simp] theorem State.memWrite_wroteSchedule (s : State) (x : Word) (v : Byte) : (s.memWrite x v).wroteSchedule = s.wroteSchedule := by
  unfold State.memWrite; split_ifs <;> rfl
@[simp] theorem State.memWrite_cycles (s : State) (x : Word) (v : Byte) : (s.memWrite x v).cycles = s.cycles := by
  unfold State.memWrite; split_ifs <;> rfl
@[simp] theorem State.memWrite_phase (s : State) (x : Word) (v : Byte) : (s.memWrite x v).phase = s.phase := by
  unfold State.memWrite; split_ifs <;> rfl
@[simp] theorem State.memWrite_line (s : State) (x : Word) (v : Byte) : (s.memWrite x v).line = s.line := by
  unfold State.memWrite; split_ifs <;> rfl
@[simp] theorem State.memWrite_budget (s : State) (x : Word) (v : Byte) : (s.memWrite x v).budget = s.budget := by
  unfold State.memWrite; split_ifs <;> rfl
@[simp] theorem State.memWrite_scanline (s : State) (x : Word) (v : Byte) : (s.memWrite x v).scanline = s.scanline := by
  unfold State.memWrite; split_ifs <;> rfl
@[simp] theorem State.memWrite_cfg (s : State) (x : Word) (v : Byte) : (s.memWrite x v).cfg = s.cfg := by
  unfold State.memWrite; split_ifs <;> rfl

/-! ### push16 -/

@[simp] theorem State.push16_a (s : State) (v : Word) : (s.push16 v).a = s.a := by
  simp [State.push16]
@[simp] theorem State.push16_b (s : State) (v : Word) : (s.push16 v).b = s.b := by
  simp [State.push16]
@[simp] theorem State.push16_c (s : State) (v : Word) : (s.push16 v).c = s.c := by
  simp [State.push16]
@[simp] theorem State.push16_d (s : State) (v : Word) : (s.push16 v).d = s.d := by
  simp [State.push16]
@[simp] theorem State.push16_e (s : State) (v : Word) : (s.push16 v).e = s.e := by
  simp [State.push16]
@[simp] theorem State.push16_h (s : State) (v : Word) : (s.push16 v).h = s.h := by
  simp [State.push16]
@[simp] theorem State.push16_l (s : State) (v : Word) : (s.push16 v).l = s.l := by
  simp [State.push16]
@[simp] theorem State.push16_f (s : State) (v : Word) : (s.push16 v).f = s.f := by
  simp [State.push16]
@[simp] theorem State.push16_pc (s : State) (v : Word) : (s.push16 v).pc = s.pc := by
  simp [State.push16]
@[simp] theorem State.push16_overflow (s : State) (v : Word) : (s.push16 v).overflow = s.overflow := by
  simp [State.push16]
@[simp] theorem State.push16_ime (s : State) (v : Word) : (s.push16 v).ime = s.ime := by
  simp [State.push16]
@[simp] theorem State.push16_scheduledIme (s : State) (v : Word) : (s.push16 v).scheduledIme = s.scheduledIme := by
  simp [State.push16]
@[simp] theorem State.push16_halted (s : State) (v : Word) : (s.push16 v).halted = s.halted := by
  simp [State.push16]
@[simp] theorem State.push16_fault (s : State) (v : Word) : (s.push16 v).fault = s.fault := by
  simp [State.push16]
@[simp] theorem State.push16_wroteSchedule (s : State) (v : Word) : (s.push16 v).wroteSchedule = s.wroteSchedule := by
  simp [State.push16]
@[simp] theorem State.push16_cycles (s : State) (v : Word) : (s.push16 v).cycles = s.cycles := by
  simp [State.push16]
@[simp] theorem State.push16_phase (s : State) (v : Word) : (s.push16 v).phase = s.phase := by
  simp [State.push16]
@[simp] theorem State.push16_line (s : State) (v : Word) : (s.push16 v).line = s.line := by
  simp [State.push16]
@[simp] theorem State.push16_budget (s : State) (v : Word) : (s.push16 v).budget = s.budget := by
  simp [State.push16]
@[simp] theorem State.push16_scanline (s : State) (v : Word) : (s.push16 v).scanline = s.scanline := by
  simp [State.push16]
@[simp] theorem State.push16_cfg (s : State) (v : Word) : (s.push16 v).cfg = s.cfg := by
  simp [State.push16]

/-! ### Memory bytes do not depend on the other fields -/

@[simp] theorem State.rawRead_setFlags (s : State) (g : Flags) (y : Word) : (s.setFlags g).rawRead y = s.rawRead y := rfl
@[simp] theorem State.rawRead_setPc (s : State) (x : Word) (y : Word) : (s.setPc x).rawRead y = s.rawRead y := rfl
@[simp] theorem State.rawRead_jumpRelative (s : State) (v : Byte) (y : Word) : (s.jumpRelative v).rawRead y = s.rawRead y := rfl
@[simp] theorem State.rawRead_returns (s : State) (n : Nat) (y : Word) : (s.returns n).rawRead y = s.rawRead y := rfl
@[simp] theorem State.rawRead_scheduleIme (s : State) (v : Bool) (y : Word) : (s.scheduleIme v).rawRead y = s.rawRead y := rfl
@[simp] theorem State.rawRead_raise (s : State) (r : ErrorRecord) (y : Word) : (s.raise r).rawRead y = s.rawRead y := rfl
@[simp] theorem State.rawRead_popped (s : State) (y : Word) : (s.popped).rawRead y = s.rawRead y := rfl
@[simp] theorem State.rawRead_setHl (s : State) (v : Word) (y : Word) : (s.setHl v).rawRead y = s.rawRead y := rfl
@[simp] theorem State.rawRead_hlIncremented (s : State) (y : Word) : (s.hlIncremented).rawRead y = s.rawRead y := rfl
@[simp] theorem State.rawRead_hlDecremented (s : State) (y : Word) : (s.hlDecremented).rawRead y = s.rawRead y := rfl
@[simp] theorem State.rawRead_setPair (s : State) (p : Pair) (v y : Word) : (s.setPair p v).rawRead y = s.rawRead y := by
  cases p <;> rfl
@[simp] theorem State.rawRead_setStackPair (s : State) (q : StackPair) (v y : Word) :
    (s.setStackPair q v).rawRead y = s.rawRead y := by
  cases q <;> rfl
@[simp] theorem State.rawRead_scheduleImeTimed (s : State) (v : Bool) (y : Word) :
    (s.scheduleImeTimed v).rawRead y = s.rawRead y := by
  unfold State.scheduleImeTimed; split <;> rfl
@[simp] theorem State.rawRead_endStep (s : State) (y : Word) : s.endStep.rawRead y = s.rawRead y := by
  unfold State.endStep; split <;> rfl

/-- A byte depends on the memory alone. -/
theorem State.rawRead_congr {s t : State} (h : s.mem = t.mem) (y : Word) : s.rawRead y = t.rawRead y := by
  unfold State.rawRead; rw [h]

/-- Two decrements are one step of two (R14). -/
@[simp] theorem State.push16_sp (s : State) (v : Word) : (s.push16 v).sp = s.sp - 2 := by
  simp only [State.push16, State.memWrite_sp]; bv_omega

/-! ### Reading a register after a write -/

/-- The written register holds the value. -/
@[simp] theorem State.reg_setReg (s : State) (r : Reg8) (v : Byte) : (s.setReg r v).reg r = v := by
  cases r <;> rfl

/-- Every other register is as before. -/
theorem State.reg_setReg_of_ne (s : State) (r q : Reg8) (v : Byte) (h : q ≠ r) :
    (s.setReg r v).reg q = s.reg q := by
  cases r <;> cases q <;> first | rfl | exact absurd rfl h

/-- Memory bytes do not depend on a register. -/
@[simp] theorem State.rawRead_setReg (s : State) (r : Reg8) (v : Byte) (x : Word) :
    (s.setReg r v).rawRead x = s.rawRead x := by
  cases r <;> rfl

/-- The registers do not depend on the flags. -/
@[simp] theorem State.reg_setFlags (s : State) (r : Reg8) (g : Flags) : (s.setFlags g).reg r = s.reg r := by
  cases r <;> rfl

/-- The registers do not depend on the count. -/
@[simp] theorem State.reg_returns (s : State) (r : Reg8) (n : Nat) : (s.returns n).reg r = s.reg r := by
  cases r <;> rfl

/-- A CPU write leaves every register. -/
@[simp] theorem State.reg_memWrite (s : State) (r : Reg8) (x : Word) (v : Byte) :
    (s.memWrite x v).reg r = s.reg r := by
  cases r <;> simp [State.reg]

end Sys2Proof.Machine
end

