-- ==== Sys2Proof/Laws/Devices.lean ====
section
/-! SUPPORT. What the tick and the PPU can do, said once: the fields each part leaves, the bytes it leaves, and
that it keeps the memory's canonical form. -/

namespace Sys2Proof.Machine

/-! ### OAM DMA -/

/-- A copy changes memory alone. -/
theorem copyToOam_eq (src : Word) (k m : Nat) (s : State) :
    copyToOam src k m s = { s with mem := (copyToOam src k m s).mem } := by
  induction m generalizing k s with
  | zero => rfl
  | succ m ih => rw [copyToOam, ih]; rfl

/-- A copy leaves every byte outside the cells of OAM it fills. -/
theorem rawRead_copyToOam_of_ne (src : Word) (k m : Nat) (s : State) (x : Word)
    (h : ∀ j, k ≤ j → j < k + m → x ≠ 0xFE00 + BitVec.ofNat 16 j) :
    (copyToOam src k m s).rawRead x = s.rawRead x := by
  induction m generalizing k s with
  | zero => rfl
  | succ m ih =>
    rw [copyToOam, ih _ _ (fun j h1 h2 => h j (by omega) (by omega)), State.rawRead_rawWrite,
      if_neg (h k (by omega) (by omega))]

theorem wf_copyToOam (src : Word) (k m : Nat) (s : State) (h : Memory.wf s.mem = true) :
    Memory.wf (copyToOam src k m s).mem = true := by
  induction m generalizing k s with
  | zero => exact h
  | succ m ih => rw [copyToOam]; exact ih _ _ (State.wf_rawWrite _ _ _ h)

/-- DMA progress changes memory and the controller alone. -/
theorem State.dmaProgress_eq (s : State) (n : Nat) :
    s.dmaProgress n = { s with mem := (s.dmaProgress n).mem, dma := (s.dmaProgress n).dma } := by
  unfold State.dmaProgress
  split
  · rfl
  · rename_i src k res _
    obtain ⟨m, hm⟩ : ∃ m, copyToOam src k (min ((res + n) / 4) (160 - k)) s = { s with mem := m } :=
      ⟨_, copyToOam_eq _ _ _ _⟩
    simp only [hm]

/-- DMA progress leaves every byte outside OAM. -/
theorem State.rawRead_dmaProgress_of_notOam (s : State) (n : Nat) (x : Word)
    (h : ¬ (0xFE00 ≤ x.toNat ∧ x.toNat ≤ 0xFE9F)) : (s.dmaProgress n).rawRead x = s.rawRead x := by
  unfold State.dmaProgress
  split
  · rfl
  · rename_i src k res _
    refine rawRead_copyToOam_of_ne _ _ _ _ _ (fun j h1 h2 hx => h ?_)
    have hj : j < 160 := by omega
    have : x.toNat = 0xFE00 + j := by
      rw [hx, BitVec.toNat_add, BitVec.toNat_ofNat, show (0xFE00 : Word).toNat = 0xFE00 from rfl]
      omega
    omega

theorem State.wf_dmaProgress (s : State) (n : Nat) (h : Memory.wf s.mem = true) :
    Memory.wf (s.dmaProgress n).mem = true := by
  unfold State.dmaProgress
  split
  · exact h
  · exact wf_copyToOam _ _ _ _ h

/-- DMA progress keeps the ranges of the controller (R48). -/
theorem State.legal_dmaProgress (s : State) (n : Nat) (h : s.dma.legal = true) :
    (s.dmaProgress n).dma.legal = true := by
  unfold State.dmaProgress
  cases hd : s.dma with
  | inactive => simp [hd, Dma.legal]
  | active src k res =>
    rw [hd] at h
    simp only [Dma.legal, decide_eq_true_eq] at h
    simp only
    split <;> simp only [Dma.legal, decide_eq_true_eq]
    omega

/-! ### Timer -/

/-- The reload changes memory and the overflow flag alone. -/
theorem State.timerReload_eq (s : State) :
    s.timerReload = { s with mem := s.timerReload.mem, overflow := s.timerReload.overflow } := by
  unfold State.timerReload
  split <;> rfl

/-- After the reload no reload is pending (R432). -/
theorem State.timerReload_overflow (s : State) : s.timerReload.overflow = false := by
  unfold State.timerReload
  split
  · rfl
  · simp_all

/-- Every byte after the reload (R432). -/
theorem State.rawRead_timerReload (s : State) (x : Word) :
    s.timerReload.rawRead x =
      if s.overflow = true ∧ x = 0xFF05 then s.rawRead 0xFF06
      else if s.overflow = true ∧ x = 0xFF0F then s.rawRead 0xFF0F ||| 0x04
      else s.rawRead x := by
  unfold State.timerReload
  by_cases ho : s.overflow = true
  · simp only [ho, if_true, true_and]
    show ((s.rawWrite 0xFF05 (s.rawRead 0xFF06)).rawWrite 0xFF0F
      ((s.rawWrite 0xFF05 (s.rawRead 0xFF06)).rawRead 0xFF0F ||| 0x04)).rawRead x = _
    simp only [State.rawRead_rawWrite]
    by_cases h1 : x = 0xFF0F
    · subst h1; simp
    · by_cases h2 : x = 0xFF05
      · subst h2; rfl
      · simp only [if_neg h1, if_neg h2]
  · simp [ho]

theorem State.wf_timerReload (s : State) (h : Memory.wf s.mem = true) :
    Memory.wf s.timerReload.mem = true := by
  unfold State.timerReload
  split
  · exact State.wf_rawWrite _ _ _ (State.wf_rawWrite _ _ _ h)
  · exact h

/-- The div advance changes memory (TIMA), div and the overflow flag alone. -/
theorem State.timerAdvance_eq (s : State) (n : Nat) :
    s.timerAdvance n =
      { s with mem := (s.timerAdvance n).mem, div := (s.timerAdvance n).div,
               overflow := (s.timerAdvance n).overflow } := rfl

/-- The div advance leaves every byte but TIMA. -/
theorem State.rawRead_timerAdvance_of_ne (s : State) (n : Nat) (x : Word) (h : x ≠ 0xFF05) :
    (s.timerAdvance n).rawRead x = s.rawRead x := by
  show (s.rawWrite 0xFF05 _).rawRead x = _
  rw [State.rawRead_rawWrite, if_neg h]

/-- Stepping the timer registers moves div by the number of cycles. -/
theorem timerCycles_div (sel : Nat) (en : Bool) (n : Nat) (r : TimerRegs) :
    (timerCycles sel en n r).div = r.div + BitVec.ofNat 16 n := by
  induction n generalizing r with
  | zero => simp [timerCycles]
  | succ n ih =>
    rw [timerCycles, ih]
    have : (timerCycle sel en r).div = r.div + 1 := by
      unfold timerCycle; simp only; split_ifs <;> rfl
    rw [this]
    bv_omega

/-- The div advance moves div by the number of cycles (R431). -/
theorem State.timerAdvance_div (s : State) (n : Nat) :
    (s.timerAdvance n).div = s.div + BitVec.ofNat 16 n := timerCycles_div _ _ _ _

theorem State.wf_timerAdvance (s : State) (n : Nat) (h : Memory.wf s.mem = true) :
    Memory.wf (s.timerAdvance n).mem = true := State.wf_rawWrite s _ _ h

/-! ### The tick -/

/-- A tick changes memory, the DMA controller, div and the overflow flag alone. -/
theorem State.tick_eq (s : State) (n : Nat) :
    s.tick n =
      { s with mem := (s.tick n).mem, dma := (s.tick n).dma, div := (s.tick n).div,
               overflow := (s.tick n).overflow } := by
  obtain ⟨m1, d1, h1⟩ : ∃ m d, s.dmaProgress n = { s with mem := m, dma := d } :=
    ⟨_, _, State.dmaProgress_eq s n⟩
  obtain ⟨m2, o2, h2⟩ : ∃ m o, (s.dmaProgress n).timerReload =
      { s.dmaProgress n with mem := m, overflow := o } := ⟨_, _, State.timerReload_eq _⟩
  unfold State.tick
  rw [h2, h1]
  rfl

/-- The bytes a tick may change: OAM, TIMA, IF and DIV. -/
theorem State.rawRead_tick_of_ne (s : State) (n : Nat) (x : Word)
    (h : ¬ (0xFE00 ≤ x.toNat ∧ x.toNat ≤ 0xFE9F)) (h4 : x ≠ 0xFF04) (h5 : x ≠ 0xFF05) (hF : x ≠ 0xFF0F) :
    (s.tick n).rawRead x = s.rawRead x := by
  unfold State.tick State.publishDiv
  rw [State.rawRead_rawWrite, if_neg h4, State.rawRead_timerAdvance_of_ne _ _ _ h5,
    State.rawRead_timerReload, if_neg (fun h => h5 h.2), if_neg (fun h => hF h.2),
    State.rawRead_dmaProgress_of_notOam _ _ _ h]

theorem State.wf_tick (s : State) (n : Nat) (h : Memory.wf s.mem = true) :
    Memory.wf (s.tick n).mem = true :=
  State.wf_rawWrite _ _ _ (State.wf_timerAdvance _ _ (State.wf_timerReload _ (State.wf_dmaProgress _ _ h)))

/-! ### The PPU -/

/-- The coincidence check changes memory alone. -/
theorem State.coincidence_eq (s : State) : s.coincidence = { s with mem := s.coincidence.mem } := by
  unfold State.coincidence
  split <;> rfl

/-- The VBlank request changes memory alone. -/
theorem State.vblank_eq (s : State) : s.vblank = { s with mem := s.vblank.mem } := by
  unfold State.vblank
  split <;> rfl

/-- Drawing a line changes memory alone. -/
theorem State.afterDraw_eq (s : State) : s.afterDraw = { s with mem := s.afterDraw.mem } := by
  unfold State.afterDraw
  split
  · obtain ⟨m1, h1⟩ : ∃ m, s.coincidence = { s with mem := m } := ⟨_, State.coincidence_eq s⟩
    obtain ⟨m2, h2⟩ : ∃ m, s.coincidence.vblank = { s.coincidence with mem := m } :=
      ⟨_, State.vblank_eq _⟩
    rw [h2, h1]
  · rfl

/-- The bytes the coincidence check may change: STAT and IF. -/
theorem State.rawRead_coincidence_of_ne (s : State) (x : Word) (h1 : x ≠ 0xFF41) (h2 : x ≠ 0xFF0F) :
    s.coincidence.rawRead x = s.rawRead x := by
  unfold State.coincidence
  split <;> simp only [State.rawRead_rawWrite, if_neg h1, if_neg h2]

/-- The byte the VBlank request may change: IF. -/
theorem State.rawRead_vblank_of_ne (s : State) (x : Word) (h : x ≠ 0xFF0F) :
    s.vblank.rawRead x = s.rawRead x := by
  unfold State.vblank
  split <;> simp only [State.rawRead_rawWrite, if_neg h]

/-- The bytes that drawing a line may change: STAT and IF (R459). -/
theorem State.rawRead_afterDraw_of_ne (s : State) (x : Word) (h1 : x ≠ 0xFF41) (h2 : x ≠ 0xFF0F) :
    s.afterDraw.rawRead x = s.rawRead x := by
  unfold State.afterDraw
  split
  · rw [State.rawRead_vblank_of_ne _ _ h2, State.rawRead_coincidence_of_ne _ _ h1 h2]
  · rfl

theorem State.wf_afterDraw (s : State) (h : Memory.wf s.mem = true) :
    Memory.wf s.afterDraw.mem = true := by
  unfold State.afterDraw State.vblank State.coincidence
  split_ifs <;> first
    | exact h
    | exact State.wf_rawWrite _ _ _ h
    | exact State.wf_rawWrite _ _ _ (State.wf_rawWrite _ _ _ h)
    | exact State.wf_rawWrite _ _ _ (State.wf_rawWrite _ _ _ (State.wf_rawWrite _ _ _ h))

end Sys2Proof.Machine
end

