-- ==== Sys2Proof/Laws/Ops.lean ====
section
/-! SUPPORT. What each shared operation on memory can do, said once: a CPU write, the two stack
operations, and that they keep the memory's canonical form. -/

namespace Sys2Proof.Machine

/-! ### The CPU write (R64 to R71) -/

/-- Every byte after a CPU write. -/
theorem State.rawRead_memWrite (s : State) (x : Word) (v : Byte) (y : Word) :
    (s.memWrite x v).rawRead y = if y ∈ touched x then landed x v else s.rawRead y := by
  unfold State.memWrite touched
  have same : ∀ (t : State) (z : Word) (u : Byte), t.mem = s.mem →
      (t.rawWrite z u).rawRead y = if y = z then u else s.rawRead y := by
    intro t z u h
    rw [State.rawRead_rawWrite]
    simp only [State.rawRead, h]
  by_cases h1 : 0xC000 ≤ x.toNat ∧ x.toNat ≤ 0xDDFF
  · have hl : landed x v = v := by
      unfold landed; rw [if_neg, if_neg] <;> · rintro h; simp_all
    simp only [inEchoed, h1, and_self, decide_true, if_true, State.rawRead_rawWrite, hl,
      List.mem_cons, List.not_mem_nil, or_false]
    by_cases ha : y = x + 0x2000 <;> by_cases hb : y = x <;> simp [ha, hb]
  · by_cases h2 : 0xE000 ≤ x.toNat ∧ x.toNat ≤ 0xFDFF
    · have hl : landed x v = v := by
        unfold landed; rw [if_neg, if_neg] <;> · rintro h; simp_all
      simp only [inEchoed, inEcho, h1, h2, and_self, decide_true, decide_false, Bool.false_eq_true,
        if_true, if_false, State.rawRead_rawWrite, hl, List.mem_cons, List.not_mem_nil, or_false]
      by_cases ha : y = x - 0x2000 <;> by_cases hb : y = x <;> simp [ha, hb]
    · simp only [inEchoed, inEcho, h1, h2, decide_false, Bool.false_eq_true, if_false, landed]
      by_cases h3 : x = 0xFF02 ∧ v = 0x81
      · obtain ⟨rfl, rfl⟩ := h3
        simp [same]
      · by_cases h4 : x = 0xFF04
        · subst h4; simp [same]
        · by_cases h5 : x = 0xFF44
          · subst h5; simp
          · by_cases h6 : x = 0xFF46
            · subst h6; simp [same]
            · simp only [if_neg h3, if_neg h4, if_neg h5, if_neg h6]
              simp [same]

/-- A CPU write leaves a byte it does not touch. -/
theorem State.rawRead_memWrite_of_notMem (s : State) (x : Word) (v : Byte) (y : Word) (h : y ∉ touched x) :
    (s.memWrite x v).rawRead y = s.rawRead y := by
  rw [State.rawRead_memWrite, if_neg h]

/-- A CPU write emits a byte exactly when 0x81 is written to SC (R69). -/
theorem State.serialOut_memWrite (s : State) (x : Word) (v : Byte) :
    (s.memWrite x v).serialOut =
      if x = 0xFF02 ∧ v = 0x81 then s.serialOut ++ [s.rawRead 0xFF01] else s.serialOut := by
  unfold State.memWrite inEchoed inEcho
  by_cases h3 : x = 0xFF02 ∧ v = 0x81
  · obtain ⟨rfl, rfl⟩ := h3; rfl
  · simp only [if_neg h3]; split_ifs <;> rfl

/-- A CPU write clears div exactly when it writes DIV (R66). -/
theorem State.div_memWrite (s : State) (x : Word) (v : Byte) :
    (s.memWrite x v).div = if x = 0xFF04 then 0x0000 else s.div := by
  unfold State.memWrite inEchoed inEcho
  by_cases h4 : x = 0xFF04
  · subst h4; rfl
  · simp only [if_neg h4]; split_ifs <;> rfl

/-- A CPU write starts a transfer exactly when it writes DMA (R68). -/
theorem State.dma_memWrite (s : State) (x : Word) (v : Byte) :
    (s.memWrite x v).dma = if x = 0xFF46 then .active (cat v 0x00) 0 0 else s.dma := by
  unfold State.memWrite inEchoed inEcho
  by_cases h6 : x = 0xFF46
  · subst h6; rfl
  · simp only [if_neg h6]; split_ifs <;> rfl

/-- A CPU write keeps the canonical form. -/
theorem State.wf_memWrite (s : State) (x : Word) (v : Byte) (h : Memory.wf s.mem = true) :
    Memory.wf (s.memWrite x v).mem = true := by
  unfold State.memWrite
  split_ifs <;> first
    | exact h
    | exact State.wf_rawWrite _ _ _ h
    | exact State.wf_rawWrite _ _ _ (State.wf_rawWrite _ _ _ h)

/-- No CPU write touches LY (R67), OAM's DMA included (R41). -/
theorem touched_ne_ly (x : Word) : (0xFF44 : Word) ∉ touched x := by
  unfold touched
  split_ifs with h1 h2 h3 <;> simp only [List.mem_cons, List.not_mem_nil, or_false, not_or, not_false_eq_true]
  · constructor
    · rintro rfl; exact absurd h1 (by decide)
    · intro h; have : x = 0xDF44 := by bv_omega
      subst this; exact absurd h1 (by decide)
  · constructor
    · rintro rfl; exact absurd h2 (by decide)
    · intro h; have : x = 0x1F44 := by bv_omega
      subst this; exact absurd h2 (by decide)
  · exact fun h => h3 h.symm

/-! ### The stack -/

/-- A push is two CPU writes with SP moved: the high byte at SP - 1, the low byte at SP - 2 (R14). -/
theorem State.push16_eq (s : State) (v : Word) :
    s.push16 v =
      { (s.memWrite (s.sp - 1) (hi8 v)).memWrite (s.sp - 2) (lo8 v) with sp := s.sp - 2 } := by
  have comm : ∀ (t : State) (x p : Word) (u : Byte),
      State.memWrite { t with sp := p } x u = { t.memWrite x u with sp := p } := by
    intro t x p u
    unfold State.memWrite
    split_ifs <;> rfl
  have hsp : s.sp - 1 - 1 = s.sp - 2 := by bv_omega
  show State.memWrite
    { State.memWrite { s with sp := s.sp - 1 } (s.sp - 1) (hi8 v) with
      sp := (State.memWrite { s with sp := s.sp - 1 } (s.sp - 1) (hi8 v)).sp - 1 }
    ((State.memWrite { s with sp := s.sp - 1 } (s.sp - 1) (hi8 v)).sp - 1) (lo8 v) = _
  rw [State.memWrite_sp, comm s, hsp]
  exact comm (s.memWrite (s.sp - 1) (hi8 v)) (s.sp - 2) (s.sp - 2) (lo8 v)

theorem State.wf_push16 (s : State) (v : Word) (h : Memory.wf s.mem = true) :
    Memory.wf (s.push16 v).mem = true := by
  rw [State.push16_eq]
  exact State.wf_memWrite _ _ _ (State.wf_memWrite _ _ _ h)

/-- A push leaves every byte that neither of its two writes touches. -/
theorem State.rawRead_push16_of_notMem (s : State) (v y : Word)
    (h1 : y ∉ touched (s.sp - 1)) (h2 : y ∉ touched (s.sp - 2)) :
    (s.push16 v).rawRead y = s.rawRead y := by
  rw [State.push16_eq]
  show ((s.memWrite (s.sp - 1) (hi8 v)).memWrite (s.sp - 2) (lo8 v)).rawRead y = s.rawRead y
  rw [State.rawRead_memWrite_of_notMem _ _ _ _ h2, State.rawRead_memWrite_of_notMem _ _ _ _ h1]

end Sys2Proof.Machine
end

