-- ==== Sys2Proof/Laws/Forms.lean ====
section
/-! SUPPORT. The meaning of a FORM, and that each instruction has the meaning of its form. A claim about all
instructions is then proved by about seventy cases and not by five hundred. -/

namespace Sys2Proof.Machine

/-- The shared operation that a form runs. -/
def execForm (f : Form) (s : State) : Result :=
  match f with
  | .ldRR r r2 => loadReg r r2 s
  | .ldRN r n => loadImm r n s
  | .ldRHl r => loadFrom r s.hl 8 s
  | .ldHlR r => storeTo s.hl (s.reg r) 8 s
  | .ldHlN n => storeTo s.hl n 12 s
  | .ldABc => loadFrom .a s.bc 8 s
  | .ldADe => loadFrom .a s.de 8 s
  | .ldBcA => storeTo s.bc s.a 8 s
  | .ldDeA => storeTo s.de s.a 8 s
  | .ldANn nn => loadFrom .a nn 16 s
  | .ldNnA nn => storeTo nn s.a 16 s
  | .ldhAN n => loadFrom .a (highPage n) 12 s
  | .ldhNA n => storeTo (highPage n) s.a 12 s
  | .ldAC => loadFrom .a (highPage s.c) 8 s
  | .ldCA => storeTo (highPage s.c) s.a 8 s
  | .ldHliA => storeAdjusting s.hlIncremented s
  | .ldHldA => storeAdjusting s.hlDecremented s
  | .ldAHli => loadAdjusting s.hlIncremented s
  | .ldAHld => loadAdjusting s.hlDecremented s
  | .ldRrNn p nn => loadPair p nn s
  | .ldNnSp nn => storeSp nn s
  | .ldSpHl => execLd_SP_HL s
  | .ldHlSpE e => execLd_HL_SPe e s
  | .push q => pushPair q s
  | .pop q => popPair q s
  | .aluR op r => aluOn op (s.reg r) 4 s
  | .aluHl op => aluOn op s.atHl 8 s
  | .aluN op n => aluOn op n 8 s
  | .incR r => incReg r s
  | .incHl => incMem s
  | .decR r => decReg r s
  | .decHl => decMem s
  | .daa => execDaa s
  | .cpl => execCpl s
  | .scf => execScf s
  | .ccf => execCcf s
  | .addHl p => addToHl p s
  | .incRr p => incPair p s
  | .decRr p => decPair p s
  | .addSpE e => execAdd_SP_e e s
  | .rlca => rotA .rlc s
  | .rrca => rotA .rrc s
  | .rla => rotA .rl s
  | .rra => rotA .rr s
  | .rotR op r => rotReg op r s
  | .rotHl op => rotMem op s
  | .bitR b r => bitReg b r s
  | .bitHl b => bitMem b s
  | .resR b r => resReg b r s
  | .resHl b => resMem b s
  | .setR b r => setReg8 b r s
  | .setHl b => setMem b s
  | .jp nn => execJp_nn nn s
  | .jpCc cc nn => jumpIf cc nn s
  | .jpHl => execJp_HL s
  | .jr e => execJr_e e s
  | .jrCc cc e => jumpRelIf cc e s
  | .call nn => callTo nn s
  | .callCc cc nn => callIf cc nn s
  | .ret => execRet s
  | .retCc cc => retIf cc s
  | .rst y => restart y s
  | .reti => execReti s
  | .nop => execNop s
  | .halt => enterHalt s
  | .stop _ => enterHalt s
  | .di => execDi s
  | .ei => execEi s
  | .unsupported op => raiseUnsupported op s

/-- Each instruction has the meaning of its form. -/
theorem exec_eq_execForm (i : Instr) (s : State) : exec i s = execForm i.form s := by
  cases i <;> rfl

/-- No form is refused and none stops: each has a next state. -/
theorem execForm_next (f : Form) (s : State) : ∃ t, execForm f s = .next t := by
  cases f <;> first
    | exact ⟨_, rfl⟩
    | (simp only [execForm, jumpIf, jumpRelIf, callIf, callTo, retIf]; split <;> exact ⟨_, rfl⟩)

/-- Every instruction has a next state. -/
theorem exec_next (i : Instr) (s : State) : ∃ t, exec i s = .next t :=
  exec_eq_execForm i s ▸ execForm_next i.form s

/-- An instruction's bytes are as many as its form says. -/
theorem length_encode (i : Instr) : (encode i).length = i.length := by
  unfold encode Instr.length
  cases i.form <;> rfl

end Sys2Proof.Machine
end

