-- ==== Sys2Proof/Laws/Step.lean ====
section
/-! SUPPORT. What a step can do, said once: the inversion lemmas of the step, of the CPU step and of taking an
interrupt, from which every claim about all steps is proved. -/

namespace Sys2Proof.Machine

/-- A step with a next state is one of the four transitions (R470), of a state without a fault (R400). -/
theorem step_cases {s t : State} (h : step s = .next t) :
    s.fault = none ∧
      ((s.phase = .writeLy ∧ t = s.lyTransition) ∨
       (s.phase = .cpu ∧ ∃ u, s.cpuStep = .next u ∧ t = u.afterCpu) ∨
       (s.phase = .tick ∧ t = s.tickTransition) ∨
       (s.phase = .draw ∧ t = s.drawTransition)) := by
  unfold step at h
  cases hf : s.fault with
  | some r => rw [hf] at h; cases h
  | none =>
    rw [hf] at h
    refine ⟨rfl, ?_⟩
    unfold State.transition at h
    cases hp : s.phase with
    | writeLy => rw [hp] at h; cases h; exact .inl ⟨rfl, rfl⟩
    | tick => rw [hp] at h; cases h; exact .inr (.inr (.inl ⟨rfl, rfl⟩))
    | draw => rw [hp] at h; cases h; exact .inr (.inr (.inr ⟨rfl, rfl⟩))
    | cpu =>
      rw [hp] at h
      refine .inr (.inl ⟨rfl, ?_⟩)
      simp only [State.cpuTransition] at h
      cases hc : s.cpuStep with
      | next u => rw [hc] at h; cases h; exact ⟨u, rfl, rfl⟩
      | fault r => rw [hc] at h; cases h
      | refused r => rw [hc] at h; cases h

/-- The state in which a CPU step that runs something starts: its schedule flag is clear and it is not
halted (R414, R415). -/
def State.awake (s : State) : State := { s with wroteSchedule := false, halted := false }

/-- The three ways of a CPU step (R415): idle, an interrupt taken, or an instruction run. -/
theorem cpuStep_cases (s : State) :
    (s.halted = true ∧ s.pending = 0 ∧
      s.cpuStep = .next ({ s with wroteSchedule := false }.returns 4).endStep) ∨
    ((s.halted = false ∨ s.pending ≠ 0) ∧ s.dispatches = true ∧
      s.cpuStep = .next s.awake.takeInterrupt.endStep) ∨
    ((s.halted = false ∨ s.pending ≠ 0) ∧ s.dispatches = false ∧
      ∃ t, exec s.fetched s.awake.pastFetched = .next t ∧ s.cpuStep = .next t.afterInstruction) := by
  have hp : ∀ w h, State.pending { s with wroteSchedule := w, halted := h } = s.pending := fun _ _ => rfl
  by_cases hh : s.halted = true ∧ s.pending = 0
  · left
    refine ⟨hh.1, hh.2, ?_⟩
    unfold State.cpuStep
    rw [if_pos]
    show (s.halted && s.pending == 0) = true
    rw [hh.1, hh.2]; rfl
  · right
    have ha : s.halted = false ∨ s.pending ≠ 0 := by
      cases h : s.halted
      · exact .inl rfl
      · exact .inr (fun h0 => hh ⟨h, h0⟩)
    have hrun : s.cpuStep = if s.dispatches then .next s.awake.takeInterrupt.endStep
        else s.awake.runInstruction := by
      unfold State.cpuStep
      rw [if_neg]
      · rfl
      · show ¬ (s.halted && s.pending == 0) = true
        rw [Bool.and_eq_true, beq_iff_eq]
        exact hh
    by_cases hd : s.dispatches = true
    · left; exact ⟨ha, hd, by rw [hrun, if_pos hd]⟩
    · right
      refine ⟨ha, by simpa using hd, ?_⟩
      obtain ⟨t, ht⟩ := exec_next s.fetched s.awake.pastFetched
      refine ⟨t, ht, ?_⟩
      rw [hrun, if_neg hd]
      unfold State.runInstruction
      show (match exec s.fetched s.awake.pastFetched with
        | .next t => (.next t.afterInstruction : Result) | .fault r => .fault r | .refused r => .refused r) = _
      rw [ht]

/-- The lowest pending bit is a source of R413. -/
theorem lowestPending_le (p : Byte) : lowestPending p ≤ 4 := by
  unfold lowestPending
  split_ifs <;> omega

end Sys2Proof.Machine
end

