-- ==== Sys2Proof/Tests/Slice0.lean ====
section
/-! SUPPORT. The model's own tests. The words of the decode tests are written out bit by bit from the
formats and maps R108 to R113; the expected values of the step tests are those of the vectors V-… of
spec/95_test_vectors.md. The last part shows, for each statement with hypotheses, data that meet them. -/

open Sys2Proof Sys2Proof.Machine

namespace Sys2Proof.Tests

/-! ### Helpers -/

/-- The state after an outcome, if there is one. -/
def after : Result → Option State
  | .next t => some t
  | .fault _ => none
  | .refused _ => none

/-- The reset state with the CPU next and bytes at 0x0100, where PC is. -/
def ready (bytes : List Byte) : State := { State.reset with phase := .cpu }.placeBytes 0x0100 bytes

/-- What one CPU step from such a state, set up further, leaves. -/
def ran (bytes : List Byte) (setup : State → State) : Option State := after (step (setup (ready bytes)))

/-- Stores a byte without side effect. -/
def poke (a : Word) (v : Byte) (s : State) : State := s.rawWrite a v

/-! ### Decoding: the words of the spec's encodings -/

-- 01 ddd sss, d = 1 (C), s = 0 (B)
theorem test_decode_ld_r_r : decode [0b01001000] = .ok .ld_C_B [] := by decide
-- 00 ddd 110, d = 5 (L); then n
theorem test_decode_ld_r_n : decode [0b00101110, 0x7F, 0x00] = .ok (.ld_L_n 0x7F) [0x00] := by decide
-- 01 110 sss, s = 7 (A)
theorem test_decode_ld_hl_r : decode [0b01110111] = .ok .ld_AtHL_A [] := by decide
-- 00 pp0 001, p = 1 (DE); low byte, high byte
theorem test_decode_ld_rr_nn : decode [0b00010001, 0x34, 0x12] = .ok (.ld_DE_nn 0x1234) [] := by decide
-- 11 qq0 101, q = 3 (AF)
theorem test_decode_push_af : decode [0b11110101] = .ok .push_AF [] := by decide
-- 10 ooo sss, o = 3 (SBC), s = 6 ((HL))
theorem test_decode_sbc_hl : decode [0b10011110] = .ok .sbc_A_AtHL [] := by decide
-- 11 ooo 110, o = 7 (CP); then n
theorem test_decode_cp_n : decode [0b11111110, 0x3C] = .ok (.cp_n 0x3C) [] := by decide
-- 00 ddd 101, d = 6 ((HL))
theorem test_decode_dec_hl : decode [0b00110101] = .ok .dec_AtHL [] := by decide
-- 00 pp1 001, p = 3 (SP)
theorem test_decode_add_hl_sp : decode [0b00111001] = .ok .add_HL_SP [] := by decide
-- CB; 00 110 rrr, operation 6 (SWAP), r = 3 (E)
theorem test_decode_swap_e : decode [0xCB, 0b00110011] = .ok .swap_E [] := by decide
-- CB; 01 bbb rrr, b = 4, r = 6 ((HL))
theorem test_decode_bit_4_hl : decode [0xCB, 0b01100110] = .ok .bit_4_AtHL [] := by decide
-- 001 cc 000, c = 3 (C); then e
theorem test_decode_jr_c : decode [0b00111000, 0x80] = .ok (.jr_C_e 0x80) [] := by decide
-- 110 cc 100, c = 2 (NC); low byte, high byte
theorem test_decode_call_nc : decode [0b11010100, 0x34, 0x12] = .ok (.call_NC_nn 0x1234) [] := by decide
-- 11 ttt 111, t = 5 (0x28)
theorem test_decode_rst_28 : decode [0b11101111] = .ok .rst_28 [] := by decide
-- 0x76 stands in the slot of LD (HL),(HL)
theorem test_decode_halt : decode [0b01110110] = .ok .halt [] := by decide
-- an unassigned byte takes no operand
theorem test_decode_unassigned : decode [0xDD, 0x21] = .ok .unsupportedDD [0x21] := by decide
theorem test_decode_table_word : decodeTableWord 16 0x7CCB = some .bit_7_H := by decide
-- the table's own number of a CB row: the prefix in bits 15..8
theorem test_decode_table_word_prefix : decodeTableWord 16 0xCB7C = some .bit_7_H := by decide
-- 24 bits: the first byte is bits 7..0, also where bits 23..8 are 0x00CB
theorem test_decode_table_word_24 : decodeTableWord 24 0x00CB01 = some (.ld_BC_nn 0x00CB) := by decide
theorem test_encode_word : encode (.ld_AtNN_SP 0xC100) = [0x08, 0x00, 0xC1] := by decide

/-! ### Well-formedness -/

theorem test_wf_default : Config.default.wellFormed = true := by decide
theorem length_zeros (n : Nat) : (List.replicate n (0x00 : Byte)).length = n := List.length_replicate
theorem test_wf_boot_256 :
    Config.wellFormed { Config.default with bootImage := some (List.replicate 256 0x00) } = true := by
  unfold Config.wellFormed; exact decide_eq_true (le_of_eq (length_zeros 256))
/-- Ill formed: a boot image of 257 bytes (R504). -/
theorem test_wf_boot_257 :
    Config.wellFormed { Config.default with bootImage := some (List.replicate 257 0x00) } = false := by
  unfold Config.wellFormed
  exact decide_eq_false (not_le_of_gt (lt_of_lt_of_eq (by decide : 256 < 257) (length_zeros 257).symm))
theorem test_wf_image_full : imageWellFormed (List.replicate 32768 0x00) = true := by
  unfold imageWellFormed; exact decide_eq_true (le_of_eq (length_zeros 32768))
/-- Ill formed: a cartridge image of 32769 bytes (R61, R402). -/
theorem test_wf_image_too_large : imageWellFormed (List.replicate 32769 0x00) = false := by
  unfold imageWellFormed
  exact decide_eq_false (not_le_of_gt (lt_of_lt_of_eq (by decide : 32768 < 32769) (length_zeros 32769).symm))
/-- No operand value is reserved, so every instruction is well formed (R114). -/
theorem test_wf_instr : Instr.wellFormed (.stop 0xFF) = true := by decide

/-! ### Placing an instruction -/

theorem test_withFetchWord :
    (after (step (State.reset.withFetchWord 8 0x3E))).map (fun t => (t.a, t.pc, t.cycles)) =
      some (0x00, 0x0102, some 8) := by decide

/-! ### Loads -/

theorem test_L1 : (ran [0x41] (fun s => { s with c := 0x12 })).map (fun t => (t.b, t.pc, t.cycles)) =
    some (0x12, 0x0101, some 4) := by decide
theorem test_L4 : (ran [0x66] (fun s => poke 0xC000 0x12 { s with h := 0xC0 })).map
    (fun t => (t.h, t.l, t.cycles)) = some (0x12, 0x00, some 8) := by decide
theorem test_L6 : (ran [0x77] (fun s => { s with h := 0xDE, a := 0x5A })).map
    (fun t => (t.rawRead 0xDE00, t.rawRead 0xFE00)) = some (0x5A, 0x00) := by decide
theorem test_L7 : (ran [0x77] (fun s => { s with h := 0xFD, l := 0xFF, a := 0x33 })).map
    (fun t => (t.rawRead 0xFDFF, t.rawRead 0xDDFF)) = some (0x33, 0x33) := by decide
theorem test_L9 : (ran [0x36, 0x99] (fun s => poke 0xFF04 0x37 { s with h := 0xFF, l := 0x04, div := 0x3712 })).map
    (fun t => (t.rawRead 0xFF04, t.div, t.cycles)) = some (0x00, 0x0000, some 12) := by decide
theorem test_L11 : (ran [0x02] (fun s => { s with b := 0xFF, c := 0x46, a := 0xC0 })).map
    (fun t => (t.rawRead 0xFF46, t.dma)) = some (0xC0, .active 0xC000 0 0) := by decide
theorem test_L13 : (ran [0xFA, 0x44, 0xFF] (poke 0xFF44 0x90)).map (fun t => (t.a, t.pc, t.cycles)) =
    some (0x90, 0x0103, some 16) := by decide
theorem test_L18 : (ran [0xE2] (fun s => poke 0xFF01 0x41 { s with c := 0x02, a := 0x81 })).map
    (fun t => (t.serialOut, t.rawRead 0xFF02, t.cycles)) = some ([0x41], 0x00, some 8) := by decide
theorem test_L21 : (ran [0x22] (fun s => { s with h := 0xFF, l := 0xFF, a := 0x1F })).map
    (fun t => (t.rawRead 0xFFFF, t.hl, t.f.toByte)) = some (0x1F, 0x0000, 0x00) := by decide
theorem test_L24 : (ran [0x3A] (fun s => poke 0xC001 0x0F { s with h := 0xC0, l := 0x01 })).map
    (fun t => (t.a, t.hl)) = some (0x0F, 0xC000) := by decide
theorem test_S3 : (ran [0x08, 0x00, 0xC1] (fun s => { s with sp := 0xFFF8 })).map
    (fun t => (t.rawRead 0xC100, t.rawRead 0xC101, t.rawRead 0xE101, t.cycles)) =
    some (0xF8, 0xFF, 0xFF, some 20) := by decide
theorem test_S8 : (ran [0xF8, 0xFF] (fun s => { s with sp := 0x0000, f := ⟨true, false, false, false⟩ })).map
    (fun t => (t.hl, t.f.toByte)) = some (0xFFFF, 0x00) := by decide
theorem test_S11 : (ran [0xC5] (fun s => { s with sp := 0x0001, b := 0xBE, c := 0xEF })).map
    (fun t => (t.rawRead 0x0000, t.rawRead 0xFFFF, t.sp)) = some (0xBE, 0xEF, 0xFFFF) := by decide
theorem test_S12 : (ran [0xF1] (fun s => poke 0xFFFC 0xFF (poke 0xFFFD 0x12 { s with sp := 0xFFFC }))).map
    (fun t => (t.af, t.sp, t.cycles)) = some (0x12F0, 0xFFFE, some 12) := by decide

/-! ### Arithmetic -/

theorem test_A2 : (ran [0x80] (fun s => { s with a := 0xFF, b := 0x01 })).map (fun t => (t.a, t.f.toByte)) =
    some (0x00, 0xB0) := by decide
theorem test_A7 : (ran [0x88] (fun s => { s with a := 0x0E, b := 0x01, f := ⟨false, false, false, true⟩ })).map
    (fun t => (t.a, t.f.toByte)) = some (0x10, 0x20) := by decide
theorem test_A10 : (ran [0x90] (fun s => { s with b := 0x01 })).map (fun t => (t.a, t.f.toByte)) =
    some (0xFF, 0x70) := by decide
theorem test_A14 : (ran [0x9F] (fun s => { s with a := 0x55, f := ⟨false, false, false, true⟩ })).map
    (fun t => (t.a, t.f.toByte)) = some (0xFF, 0x70) := by decide
theorem test_A15 : (ran [0xA0] (fun s => { s with a := 0xF0, b := 0x0F, f := ⟨false, false, false, true⟩ })).map
    (fun t => (t.a, t.f.toByte)) = some (0x00, 0xA0) := by decide
theorem test_A18 : (ran [0xEE, 0xFF] (fun s => { s with a := 0x5A })).map (fun t => (t.a, t.f.toByte)) =
    some (0xA5, 0x00) := by decide
theorem test_A20 : (ran [0xB8] (fun s => { s with a := 0x3C, b := 0x40 })).map (fun t => (t.a, t.f.toByte)) =
    some (0x3C, 0x50) := by decide
theorem test_A21 : (ran [0x04] (fun s => { s with b := 0xFF, f := ⟨false, false, false, true⟩ })).map
    (fun t => (t.b, t.f.toByte)) = some (0x00, 0xB0) := by decide
theorem test_A24 : (ran [0x1D] (fun s => { s with e := 0x10 })).map (fun t => (t.e, t.f.toByte)) =
    some (0x0F, 0x60) := by decide
theorem test_A29 : (ran [0x27] (fun s => { s with a := 0x9A })).map (fun t => (t.a, t.f.toByte)) =
    some (0x00, 0x90) := by decide
theorem test_A33 : (ran [0x27] (fun s => { s with a := 0xF0, f := ⟨false, true, false, true⟩ })).map
    (fun t => (t.a, t.f.toByte)) = some (0x90, 0x50) := by decide
theorem test_A35 : (ran [0x2F] (fun s => { s with a := 0x35, f := ⟨true, false, false, true⟩ })).map
    (fun t => (t.a, t.f.toByte)) = some (0xCA, 0xF0) := by decide
theorem test_A37 : (ran [0x3F] (fun s => { s with f := ⟨false, false, true, true⟩ })).map
    (fun t => t.f.toByte) = some 0x00 := by decide
theorem test_X1 : (ran [0x09] (fun s => { s with h := 0x8A, l := 0x23, b := 0x06, c := 0x05 })).map
    (fun t => (t.hl, t.f.toByte, t.cycles)) = some (0x9028, 0x20, some 8) := by decide
theorem test_X6 : (ran [0x13] (fun s => { s with e := 0xFF })).map (fun t => (t.d, t.e)) =
    some (0x01, 0x00) := by decide
theorem test_X9 : (ran [0xE8, 0xFE] (fun s => { s with sp := 0x0005 })).map
    (fun t => (t.sp, t.f.toByte, t.cycles)) = some (0x0003, 0x30, some 16) := by decide

/-! ### Rotates, shifts, bits -/

theorem test_B2 : (ran [0x07] (fun s => { s with
    a := 0x85, f := ⟨true, false, false, false⟩, cfg := { Config.default with rotAZ := .clear } })).map
    (fun t => (t.a, t.f.toByte)) = some (0x0B, 0x10) := by decide
theorem test_B6 : (ran [0x17] (fun s => { s with a := 0x95, f := ⟨false, false, false, true⟩ })).map
    (fun t => (t.a, t.f.toByte)) = some (0x2B, 0x10) := by decide
theorem test_B12 : (ran [0xCB, 0x1A] (fun s => { s with f := ⟨false, false, false, true⟩ })).map
    (fun t => (t.d, t.f.toByte)) = some (0x80, 0x00) := by decide
theorem test_B14 : (ran [0xCB, 0x2F] (fun s => { s with a := 0x81 })).map (fun t => (t.a, t.f.toByte)) =
    some (0xC0, 0x10) := by decide
theorem test_B16 : (ran [0xCB, 0x33] (fun s => { s with e := 0x12, f := ⟨false, false, false, true⟩ })).map
    (fun t => (t.e, t.f.toByte)) = some (0x21, 0x00) := by decide
theorem test_B18 : (ran [0xCB, 0x06] (fun s => poke 0xC000 0x81 { s with h := 0xC0 })).map
    (fun t => (t.rawRead 0xC000, t.rawRead 0xE000, t.f.toByte, t.cycles)) =
    some (0x03, 0x03, 0x10, some 16) := by decide
theorem test_B20 : (ran [0xCB, 0x7C] (fun s => { s with h := 0x80, f := ⟨false, true, false, false⟩ })).map
    (fun t => t.f.toByte) = some 0x20 := by decide
theorem test_B22 : (ran [0xCB, 0xBF] (fun s => { s with a := 0xFF, f := ⟨true, false, false, false⟩ })).map
    (fun t => (t.a, t.f.toByte)) = some (0x7F, 0x80) := by decide
theorem test_B24 : (ran [0xCB, 0xC6] (fun s => poke 0xFF44 0x10 { s with h := 0xFF, l := 0x44 })).map
    (fun t => (t.rawRead 0xFF44, t.cycles)) = some (0x10, some 16) := by decide

/-! ### Control and system -/

theorem test_T2 : (ran [0xCA, 0x00, 0x02] id).map (fun t => (t.pc, t.cycles)) = some (0x0103, some 12) := by decide
theorem test_T7 : (ran [0x18, 0x80] id).map (fun t => (t.pc, t.cycles)) = some (0x0082, some 12) := by decide
theorem test_T9 : (ran [0x20, 0xFB] id).map (fun t => (t.pc, t.cycles)) = some (0x00FD, some 12) := by decide
theorem test_T12 : (ran [0xCD, 0x00, 0x02] id).map
    (fun t => (t.rawRead 0xFFFC, t.rawRead 0xFFFD, t.sp, t.pc, t.cycles)) =
    some (0x03, 0x01, 0xFFFC, 0x0200, some 24) := by decide
theorem test_T18 : (ran [0xD0] (fun s => poke 0xFFFC 0x53 (poke 0xFFFD 0x01 { s with sp := 0xFFFC }))).map
    (fun t => (t.pc, t.sp, t.cycles)) = some (0x0153, 0xFFFE, some 20) := by decide
theorem test_T20 : (ran [0xFF] (fun s => { s with sp := 0x0000 })).map
    (fun t => (t.rawRead 0xFFFE, t.rawRead 0xFFFF, t.pc, t.sp)) = some (0x01, 0x01, 0x0038, 0xFFFE) := by decide
theorem test_T21 : (ran [0xD9] (fun s => poke 0xFFFC 0x53 (poke 0xFFFD 0x01 { s with sp := 0xFFFC }))).map
    (fun t => (t.pc, t.sp, t.ime, t.scheduledIme, t.cycles)) = some (0x0153, 0xFFFE, false, true, some 16) := by decide
theorem test_halt : (ran [0x76] id).map (fun t => (t.halted, t.pc, t.cycles)) =
    some (true, 0x0101, some 4) := by decide
theorem test_stop : (ran [0x10, 0xFF] id).map (fun t => (t.halted, t.pc, t.cycles)) =
    some (true, 0x0102, some 4) := by decide
theorem test_ei : (ran [0xFB] id).map (fun t => (t.ime, t.scheduledIme, t.cycles)) =
    some (false, true, some 4) := by decide
theorem test_unassigned : (ran [0xED] id).map (fun t => (t.fault, t.pc, t.cycles, t.phase)) =
    some (some (.unsupportedOpcode 0xED false 0x0100), 0x0101, none, .cpu) := by decide

/-! ### Interrupts, timer, DMA, PPU -/

theorem test_Y6 : (ran [0x3C] (fun s => poke 0xFFFF 0x01 (poke 0xFF0F 0x04 { s with halted := true }))).map
    (fun t => (t.halted, t.pc, t.cycles)) = some (true, 0x0100, some 4) := by decide
theorem test_Y9 : (ran [0xF3] (fun s => { s with
    ime := true, scheduledIme := true, cfg := { Config.default with imeTiming := .hw } })).map
    (fun t => (t.ime, t.scheduledIme)) = some (false, false) := by decide
theorem test_I2 : (ran [0x00] (fun s => poke 0xFFFF 0x1F (poke 0xFF0F 0x05 { s with
    ime := true, scheduledIme := true, cfg := { Config.default with irqDispatch := true } }))).map
    (fun t => (t.pc, t.rawRead 0xFF0F, t.sp, t.ime, t.cycles)) =
    some (0x0040, 0x04, 0xFFFC, false, some 20) := by decide
theorem test_M4 :
    ((poke 0xFF07 0x05 { State.reset with div := 0x000F }).tick 1).rawRead 0xFF05 = 0x01 := by decide
/-- A timer about to overflow. -/
def overflowing : State := poke 0xFF07 0x05 (poke 0xFF05 0xFF (poke 0xFF06 0xAB { State.reset with div := 0x000C }))
theorem test_M10 :
    let t := overflowing.tick 4
    (t.rawRead 0xFF05, t.rawRead 0xFF0F, t.overflow) = (0x00, 0x00, true) := by decide
theorem test_M11 :
    let t := (overflowing.tick 4).tick 4
    (t.rawRead 0xFF05, t.rawRead 0xFF0F, t.overflow) = (0xAB, 0x04, false) := by decide
theorem test_D1 :
    let t := (poke 0xC000 0x10 (poke 0xC001 0x11 { State.reset with dma := .active 0xC000 0 0 })).tick 4
    (t.rawRead 0xFE00, t.rawRead 0xFE01, t.dma) = (0x10, 0x00, .active 0xC000 1 0) := by decide
/-- Line 0 with the LCD on, LCDC `v`, BGP 0xE4 and LYC 0x99. -/
def lit (v : Byte) : State := poke 0xFF40 v (poke 0xFF47 0xE4 (poke 0xFF45 0x99 State.reset))
theorem test_P4 :
    let s := poke 0x8010 0xF0 (poke 0x8011 0xF0 (poke 0x9800 0x01 (lit 0x91)))
    (s.bgShade 3, s.bgShade 4) = (3, 0) := by decide
theorem test_P8 :
    let s := poke 0x9800 0x80 (poke 0x8800 0xFF (poke 0x8801 0xFF (lit 0x81)))
    (s.bgShade 7, s.bgShade 8) = (3, 0) := by decide
theorem test_P12 :
    let t := (poke 0xFF44 0x2B (poke 0xFF41 0x44 (poke 0xFF0F 0x02 (lit 0x91)))).afterDraw
    (t.rawRead 0xFF41, t.rawRead 0xFF0F) = (0x40, 0x02) := by decide
theorem test_P17 :
    (poke 0xFF44 0x11 (poke 0xFE00 0x0A (poke 0xFE01 0x08 (poke 0xFE04 0x02 (poke 0xFE05 0x08 (lit 0x80)))))).spriteScan =
      [⟨0x0A, 0x08, 0x00, 0x00⟩] := by decide

/-! ### Statements with hypotheses: data that meet them -/

theorem test_witness_DecodeOfEncode : Instr.wellFormed (.jp_nn 0xFFFF) = true := by decide
theorem test_witness_EncodeOfDecode : decode [0xCB, 0xFF, 0x00] = .ok .set_7_A [0x00] := by decide
theorem test_witness_LoadsOfRegisters :
    Instr.ld_B_C.form = .ldRR .b .c ∧ (Instr.ld_A_n 0xFF).form = .ldRN .a 0xFF ∧
    Instr.ld_H_AtHL.form = .ldRHl .h ∧ Instr.ld_A_AtBC.form = .ldABc ∧ Instr.ld_A_AtDE.form = .ldADe ∧
    (Instr.ld_A_AtNN 0xFFFF).form = .ldANn 0xFFFF ∧ (Instr.ldh_A_AtN 0xFF).form = .ldhAN 0xFF ∧
    Instr.ld_A_AtC.form = .ldAC := by decide
theorem test_witness_StoresAndHlStepping :
    Instr.ld_AtHL_L.form = .ldHlR .l ∧ (Instr.ld_AtHL_n 0xFF).form = .ldHlN 0xFF ∧
    Instr.ld_AtBC_A.form = .ldBcA ∧ Instr.ld_AtDE_A.form = .ldDeA ∧
    (Instr.ld_AtNN_A 0x0000).form = .ldNnA 0x0000 ∧ (Instr.ldh_AtN_A 0x46).form = .ldhNA 0x46 ∧
    Instr.ld_AtC_A.form = .ldCA ∧ Instr.ld_AtHLI_A.form = .ldHliA ∧ Instr.ld_AtHLD_A.form = .ldHldA ∧
    Instr.ld_A_AtHLI.form = .ldAHli ∧ Instr.ld_A_AtHLD.form = .ldAHld := by decide
theorem test_witness_WordLoadsAndStack :
    (Instr.ld_SP_nn 0xFFFF).form = .ldRrNn .sp 0xFFFF ∧ (Instr.ld_AtNN_SP 0xFFFF).form = .ldNnSp 0xFFFF ∧
    Instr.ld_SP_HL.form = .ldSpHl ∧ Instr.push_AF.form = .push .af ∧ Instr.pop_AF.form = .pop .af := by decide
theorem test_witness_AddAndAdc :
    Instr.add_A_A.form = .aluR .add .a ∧ Instr.add_A_AtHL.form = .aluHl .add ∧
    (Instr.add_A_n 0xFF).form = .aluN .add 0xFF ∧ Instr.adc_A_L.form = .aluR .adc .l ∧
    Instr.adc_A_AtHL.form = .aluHl .adc ∧ (Instr.adc_A_n 0x00).form = .aluN .adc 0x00 := by decide
theorem test_witness_SubSbcAndCp :
    Instr.sub_B.form = .aluR .sub .b ∧ Instr.sub_AtHL.form = .aluHl .sub ∧
    (Instr.sub_n 0xFF).form = .aluN .sub 0xFF ∧ Instr.sbc_A_C.form = .aluR .sbc .c ∧
    Instr.sbc_A_AtHL.form = .aluHl .sbc ∧ (Instr.sbc_A_n 0xFF).form = .aluN .sbc 0xFF ∧
    Instr.cp_D.form = .aluR .cp .d ∧ Instr.cp_AtHL.form = .aluHl .cp ∧ (Instr.cp_n 0x00).form = .aluN .cp 0x00 := by
  decide
theorem test_witness_AndXorOr :
    Instr.and_E.form = .aluR .and .e ∧ Instr.and_AtHL.form = .aluHl .and ∧
    (Instr.and_n 0x0F).form = .aluN .and 0x0F ∧ Instr.xor_A.form = .aluR .xor .a ∧
    Instr.xor_AtHL.form = .aluHl .xor ∧ (Instr.xor_n 0xFF).form = .aluN .xor 0xFF ∧
    Instr.or_H.form = .aluR .or .h ∧ Instr.or_AtHL.form = .aluHl .or ∧ (Instr.or_n 0x00).form = .aluN .or 0x00 := by
  decide
theorem test_witness_IncAndDec :
    Instr.inc_B.form = .incR .b ∧ Instr.inc_AtHL.form = .incHl ∧ Instr.dec_A.form = .decR .a ∧
    Instr.dec_AtHL.form = .decHl := by decide
theorem test_witness_DaaCplScfCcf :
    Instr.daa.form = .daa ∧ Instr.cpl.form = .cpl ∧ Instr.scf.form = .scf ∧ Instr.ccf.form = .ccf := by decide
theorem test_witness_WordArithmetic :
    Instr.add_HL_HL.form = .addHl .hl ∧ Instr.inc_SP.form = .incRr .sp ∧ Instr.dec_BC.form = .decRr .bc ∧
    (Instr.add_SP_e 0x80).form = .addSpE 0x80 ∧ (Instr.ld_HL_SPe 0x7F).form = .ldHlSpE 0x7F := by decide
theorem test_witness_Rotates :
    Instr.rlca.form = .rlca ∧ Instr.rrca.form = .rrca ∧ Instr.rla.form = .rla ∧ Instr.rra.form = .rra ∧
    Instr.rlc_B.form = .rotR .rlc .b ∧ Instr.rlc_AtHL.form = .rotHl .rlc ∧
    Instr.rrc_C.form = .rotR .rrc .c ∧ Instr.rrc_AtHL.form = .rotHl .rrc ∧
    Instr.rl_D.form = .rotR .rl .d ∧ Instr.rl_AtHL.form = .rotHl .rl ∧
    Instr.rr_A.form = .rotR .rr .a ∧ Instr.rr_AtHL.form = .rotHl .rr := by decide
theorem test_witness_ShiftsAndSwap :
    Instr.sla_E.form = .rotR .sla .e ∧ Instr.sla_AtHL.form = .rotHl .sla ∧
    Instr.sra_H.form = .rotR .sra .h ∧ Instr.sra_AtHL.form = .rotHl .sra ∧
    Instr.swap_L.form = .rotR .swap .l ∧ Instr.swap_AtHL.form = .rotHl .swap ∧
    Instr.srl_A.form = .rotR .srl .a ∧ Instr.srl_AtHL.form = .rotHl .srl := by decide
theorem test_witness_BitResSet :
    Instr.bit_7_A.form = .bitR 7 .a ∧ Instr.bit_0_AtHL.form = .bitHl 0 ∧ Instr.res_0_B.form = .resR 0 .b ∧
    Instr.res_7_AtHL.form = .resHl 7 ∧ Instr.set_7_A.form = .setR 7 .a ∧ Instr.set_0_AtHL.form = .setHl 0 := by
  decide
theorem test_witness_Jumps :
    (Instr.jp_nn 0xFFFF).form = .jp 0xFFFF ∧ (Instr.jp_NZ_nn 0x0000).form = .jpCc .nz 0x0000 ∧
    Instr.jp_HL.form = .jpHl ∧ (Instr.jr_e 0x80).form = .jr 0x80 ∧ (Instr.jr_C_e 0x7F).form = .jrCc .c 0x7F := by
  decide
theorem test_witness_CallsAndReturns :
    (Instr.call_nn 0xFFFF).form = .call 0xFFFF ∧ (Instr.call_NC_nn 0x0000).form = .callCc .nc 0x0000 ∧
    Instr.rst_38.form = .rst 7 ∧ Instr.ret.form = .ret ∧ Instr.ret_Z.form = .retCc .z ∧ Instr.reti.form = .reti := by
  decide
theorem test_witness_SystemInstructions :
    Instr.nop.form = .nop ∧ Instr.halt.form = .halt ∧ (Instr.stop 0xFF).form = .stop 0xFF ∧
    Instr.di.form = .di ∧ Instr.ei.form = .ei := by decide
theorem test_witness_UnassignedBytesRaise :
    Instr.unsupportedD3.form = .unsupported 0xD3 ∧ Instr.unsupportedFD.form = .unsupported 0xFD := by decide
/-- The first and the last address of each range, and the addresses beside them. -/
theorem test_witness_CpuWriteDispatch :
    (0xC000 ≤ (0xC000 : Word).toNat ∧ (0xC000 : Word).toNat ≤ 0xDDFF) ∧
    (0xC000 ≤ (0xDDFF : Word).toNat ∧ (0xDDFF : Word).toNat ≤ 0xDDFF) ∧
    (0xE000 ≤ (0xE000 : Word).toNat ∧ (0xE000 : Word).toNat ≤ 0xFDFF) ∧
    (0xE000 ≤ (0xFDFF : Word).toNat ∧ (0xFDFF : Word).toNat ≤ 0xFDFF) ∧
    ∀ a ∈ ([0xBFFF, 0xDE00, 0xDFFF, 0xFE00, 0xFFFF] : List Word),
      ¬ (0xC000 ≤ a.toNat ∧ a.toNat ≤ 0xDDFF) ∧ ¬ (0xE000 ≤ a.toNat ∧ a.toNat ≤ 0xFDFF) ∧
      ¬ (a = 0xFF02 ∧ (0x81 : Byte) = 0x81) ∧ a ≠ 0xFF04 ∧ a ≠ 0xFF44 ∧ a ≠ 0xFF46 := by
  refine ⟨by decide, by decide, by decide, by decide, fun a ha => ?_⟩
  fin_cases ha <;> decide
theorem test_witness_PushThenPop :
    (∀ x ∈ [State.reset.sp - 1, State.reset.sp - 2], x ≠ 0xFF02 ∧ x ≠ 0xFF04 ∧ x ≠ 0xFF44) ∧
    ∃ t u, exec (.call_nn 0x0200) State.reset = .next t ∧ exec .ret t = .next u := by
  obtain ⟨t, ht⟩ := exec_next (.call_nn 0x0200) State.reset
  obtain ⟨u, hu⟩ := exec_next .ret t
  refine ⟨fun x hx => ?_, t, u, ht, hu⟩
  fin_cases hx <;> decide
theorem test_witness_RegisterFrame :
    (∃ t, exec .ld_A_AtHLI State.reset = .next t) ∧ Reg8.b ∉ destinations Instr.ld_A_AtHLI.form ∧
    writesSp Instr.ld_A_AtHLI.form = false ∧ transfersControl Instr.ld_A_AtHLI.form = false :=
  ⟨exec_next _ _, by decide⟩
theorem test_witness_FlagFrame :
    (∃ t, exec .nop State.reset = .next t) ∧
    flagsWritten State.reset.cfg Instr.nop.form = ⟨false, false, false, false⟩ := ⟨exec_next _ _, by decide⟩
theorem test_witness_MemoryFrame :
    (∃ t, exec .ld_SP_HL State.reset = .next t) ∧ storeAddresses State.reset Instr.ld_SP_HL.form = [] ∧
    (∃ t, exec .push_BC State.reset = .next t) ∧
    ∀ a ∈ storeAddresses State.reset Instr.push_BC.form, (0xFFFE : Word) ∉ touched a :=
  ⟨exec_next _ _, by decide, exec_next _ _, fun a ha => by fin_cases ha <;> decide⟩
theorem test_witness_HiddenStateFrame :
    (∃ t, exec .push_BC State.reset = .next t) ∧ schedulesIme Instr.push_BC.form = false ∧
    Instr.push_BC.form ≠ .stop 0x00 ∧ Instr.push_BC.form ≠ .halt ∧ Instr.push_BC.form ≠ .unsupported 0xD3 ∧
    (∀ a ∈ ([0xFF04, 0xFF46, 0xFF02] : List Word), a ∉ storeAddresses State.reset Instr.push_BC.form) :=
  ⟨exec_next _ _, by decide, by decide, by decide, by decide, fun a ha => by fin_cases ha <;> decide⟩
theorem test_witness_StepRunsDecodedInstruction :
    let s := ready [0xFB]
    s.fault = none ∧ s.phase = .cpu ∧ (s.halted = false ∨ s.pending ≠ 0) ∧
    ¬ (s.cfg.irqDispatch = true ∧ s.ime = true ∧ s.pending ≠ 0) ∧
    decode [s.rawRead s.pc, s.rawRead (s.pc + 1), s.rawRead (s.pc + 2)] = .ok .ei [0x00, 0x00] := by decide
/-- A halted state with nothing pending, and one with the timer request pending and enabled. -/
def idle : State := { ready [] with halted := true }
def woken : State := poke 0xFFFF 0x04 (poke 0xFF0F 0x04 idle)
theorem test_witness_HaltedStep :
    idle.fault = none ∧ idle.phase = .cpu ∧ idle.halted = true ∧
    idle.rawRead 0xFFFF &&& idle.rawRead 0xFF0F &&& 0x1F = 0 ∧
    woken.fault = none ∧ woken.phase = .cpu ∧ woken.halted = true ∧
    woken.rawRead 0xFFFF &&& woken.rawRead 0xFF0F &&& 0x1F ≠ 0 := by decide
/-- States with interrupts on and the requests `v` pending and enabled. -/
def requested (v : Byte) : State :=
  poke 0xFFFF 0xFF (poke 0xFF0F v { ready [] with ime := true, cfg := { Config.default with irqDispatch := true } })
theorem test_witness_InterruptIsTaken :
    ∀ p ∈ ([(0x1F, 0), (0x10, 4)] : List (Byte × Nat)),
      let s := requested p.1
      s.fault = none ∧ s.phase = .cpu ∧ s.cfg.irqDispatch = true ∧ s.ime = true ∧ p.2 < 5 ∧
      (s.rawRead 0xFFFF &&& s.rawRead 0xFF0F &&& 0x1F).getLsbD p.2 = true ∧
      ∀ j < p.2, (s.rawRead 0xFFFF &&& s.rawRead 0xFF0F &&& 0x1F).getLsbD j = false := by decide
/-- EI and then DI, and EI and then NOP. -/
theorem test_witness_EnableIsDelayed :
    ∀ p ∈ ([0xF3, 0x00] : List Byte),
      let s := ready [0xFB, p]
      s.fault = none ∧ s.halted = false ∧ s.ime = false ∧ s.fetched.form = .ei ∧
      ∃ t ∈ (after s.cpuStep), (∃ u ∈ after (t.tick 4).cpuStep, u.fault = none) ∧
        ((t.tick 4).fetched.form = .di ∨ schedulesIme (t.tick 4).fetched.form = false) := by decide
theorem test_witness_ImeIsNotRead :
    State.reset.cfg.irqDispatch = false ∧ ∃ t, step State.reset = .next t := ⟨rfl, _, rfl⟩
/-- One step that returns a count, and one that records an error and returns none. -/
theorem test_witness_StepCounts :
    (ready [0x00]).phase = .cpu ∧ (ran [0x00] id).map (fun t => t.fault) = some none ∧
    (ran [0xD3] id).map (fun t => t.fault) = some (some (.unsupportedOpcode 0xD3 false 0x0100)) := by decide
theorem test_witness_HaltWithoutSourceNeverEnds :
    idle.halted = true ∧ idle.pending = 0 ∧ idle.rawRead 0xFFFF &&& 0x07 = 0 ∧ (after (step idle)).isSome = true := by
  decide
/-- A state with an error recorded, and a step that records one. -/
theorem test_witness_ErrorIsFatal :
    (State.reset.raise (.unsupportedOpcode 0xED false 0x0100)).fault = some (.unsupportedOpcode 0xED false 0x0100) ∧
    (ran [0xED] id).map (fun t => t.fault) = some (some (.unsupportedOpcode 0xED false 0x0100)) := by decide
theorem test_witness_ErrorIsPrecise : ∃ t, step (ready [0xFD]) = .next t ∧ t.fault ≠ none :=
  ⟨_, rfl, by decide⟩
/-- No transfer; one that has just begun; one before its last byte, with the largest base and residue. -/
theorem test_witness_DmaProgress :
    State.reset.dma = .inactive ∧
    ∀ p ∈ ([(0x0000, 0, 0), (0xFF00, 159, 3)] : List (Word × Nat × Nat)),
      ({ State.reset with dma := .active p.1 p.2.1 p.2.2 }).dma = .active p.1 p.2.1 p.2.2 ∧
      p.1.toNat % 256 = 0 ∧ p.2.1 < 160 := by decide
theorem test_witness_DmaTakes640Cycles :
    ({ State.reset with dma := .active 0xC000 0 0 }).dma = .active 0xC000 0 0 ∧ (0xC000 : Word).toNat % 256 = 0 := by
  decide
/-- A state with `COMPOSE_OBJ_WIN` and the given LCDC. -/
def video (lcdc : Byte) : State :=
  poke 0xFF40 lcdc { ready [] with cfg := { Config.default with composeObjWin := true } }
theorem test_witness_BackgroundRow :
    (State.reset.rawRead 0xFF40).getLsbD 7 = false ∧ ((video 0x80).rawRead 0xFF40).getLsbD 7 = true ∧
    ((poke 0xFF40 0x80 State.reset).cfg.composeObjWin = false ∧
      ((poke 0xFF40 0x80 State.reset).rawRead 0xFF40).getLsbD 7 = true ∧ 159 < 160) := by decide
theorem test_witness_WindowLayer :
    159 < 160 ∧ (video 0xA1).cfg.composeObjWin = true ∧ ((video 0xA1).rawRead 0xFF40).getLsbD 7 = true ∧
    ((video 0xA1).rawRead 0xFF40).getLsbD 1 = false := by decide
/-- A sprite at the left edge of line 0 with a solid tile, over a blank layer. -/
def sprited : State := poke 0x8000 0xFF (poke 0xFE01 0x08 (video 0x82))
theorem test_witness_SpritePixel :
    (0 < 160 ∧ sprited.cfg.composeObjWin = true ∧ (sprited.rawRead 0xFF40).getLsbD 7 = true ∧
      (sprited.rawRead 0xFF40).getLsbD 1 = true) ∧
    candidates 159 sprited.spriteScan = [] ∧
    candidates 0 sprited.spriteScan = [] ++ ⟨0x00, 0x08, 0x00, 0x00⟩ :: [] ∧
    2 * ((sprited.rawRead 0x8001).getLsbD 7).toNat + ((sprited.rawRead 0x8000).getLsbD 7).toNat ≠ 0 := by decide
theorem test_witness_CoincidenceAndVblank :
    (State.reset.rawRead 0xFF40).getLsbD 7 = false ∧ ((video 0x80).rawRead 0xFF40).getLsbD 7 = true := by decide
theorem test_witness_PpuWritesOnly :
    ({ video 0x80 with phase := .draw }).phase = .draw ∧ (∃ t, step { video 0x80 with phase := .draw } = .next t) ∧
    (video 0x80).mem = ({ video 0x80 with a := 0xFF }).mem ∧ (video 0x80).cfg = ({ video 0x80 with a := 0xFF }).cfg :=
  ⟨rfl, ⟨_, rfl⟩, rfl, rfl⟩
/-- Two states that differ in OBP0 and in LCDC bits 0 and 6. -/
theorem test_witness_UnusedVideoRegisters :
    let s := poke 0xFF40 0x80 State.reset
    let u := poke 0xFF48 0xE4 (poke 0xFF40 0xC1 State.reset)
    s.cfg = u.cfg ∧ s.cfg.composeObjWin = false ∧
    (∀ x : Word, x ∉ ([0xFF40, 0xFF48, 0xFF49, 0xFF4A, 0xFF4B] : List Word) → s.rawRead x = u.rawRead x) ∧
    ∀ k ∈ [2, 3, 4, 7], (s.rawRead 0xFF40).getLsbD k = (u.rawRead 0xFF40).getLsbD k := by
  refine ⟨rfl, rfl, fun x hx => ?_, by decide⟩
  simp only [List.mem_cons, List.not_mem_nil, or_false, not_or] at hx
  simp only [poke, State.rawRead_rawWrite, hx.1, hx.2.1, if_false]
/-- A state in each phase; the tick has a count, and the draw is of the frame's last line. -/
theorem test_witness_HostLoop :
    (∃ s, construct Config.default [0x00] = .machine s) ∧
    State.reset.fault = none ∧ State.reset.phase = .writeLy ∧ (ready [0x00]).phase = .cpu ∧
    ({ State.reset with phase := .tick, cycles := some 24 }).cycles = some 24 ∧
    ({ State.reset with phase := .draw, line := 153 }).line ≤ 153 := ⟨⟨_, rfl⟩, by decide⟩
theorem test_witness_LyIsTheHosts : ∃ t, step State.reset = .next t := ⟨_, rfl⟩
theorem test_witness_Construction :
    Config.default.wellFormed = true ∧ (List.replicate 32769 (0x00 : Byte)).length > 32768 ∧
    (List.replicate 32768 (0x00 : Byte)).length ≤ 32768 :=
  ⟨by decide, lt_of_lt_of_eq (by decide : 32768 < 32769) (length_zeros 32769).symm, le_of_eq (length_zeros 32768)⟩
theorem test_witness_StepKeepsLegal : State.reset.legal = true ∧ ∃ t, step State.reset = .next t := ⟨by decide, _, rfl⟩
theorem test_witness_StepKeepsEcho : State.reset.echoed ∧ ∃ t, step State.reset = .next t :=
  ⟨fun _ _ _ => by rw [State.rawRead, State.rawRead, show State.reset.mem = [] from rfl, Memory.read, Memory.read],
    _, rfl⟩
theorem test_witness_StepKeepsDivShown : State.reset.divShown ∧ ∃ t, step State.reset = .next t := ⟨rfl, _, rfl⟩
theorem test_witness_SerialIsAppendOnly : ∃ t, step (ready [0x00]) = .next t := ⟨_, rfl⟩

end Sys2Proof.Tests
end

section
/-! SUPPORT. Laws that all the proofs over every form use: what `reg` reads after each update of the state, the
program counter and SP after a store at HL, and the inversion of a meaning with two outcomes. -/

namespace Sys2Proof.Machine

/-! ### Reading a register after an update that is no register write -/

@[simp] theorem State.reg_setPc (s : State) (r : Reg8) (x : Word) : (s.setPc x).reg r = s.reg r := by
  cases r <;> rfl
@[simp] theorem State.reg_jumpRelative (s : State) (r : Reg8) (e : Byte) :
    (s.jumpRelative e).reg r = s.reg r := by
  cases r <;> rfl
@[simp] theorem State.reg_popped (s : State) (r : Reg8) : s.popped.reg r = s.reg r := by
  cases r <;> rfl
@[simp] theorem State.reg_raise (s : State) (r : Reg8) (e : ErrorRecord) : (s.raise e).reg r = s.reg r := by
  cases r <;> rfl
@[simp] theorem State.reg_scheduleIme (s : State) (r : Reg8) (v : Bool) :
    (s.scheduleIme v).reg r = s.reg r := by
  cases r <;> rfl
@[simp] theorem State.reg_scheduleImeTimed (s : State) (r : Reg8) (v : Bool) :
    (s.scheduleImeTimed v).reg r = s.reg r := by
  cases r <;> simp [State.reg]
@[simp] theorem State.reg_push16 (s : State) (r : Reg8) (v : Word) : (s.push16 v).reg r = s.reg r := by
  cases r <;> simp [State.reg]
@[simp] theorem State.reg_withSp (s : State) (r : Reg8) (p : Word) :
    State.reg { s with sp := p } r = s.reg r := by
  cases r <;> rfl
@[simp] theorem State.reg_withHalted (s : State) (r : Reg8) (v : Bool) :
    State.reg { s with halted := v } r = s.reg r := by
  cases r <;> rfl

/-! ### Reading a register after a write to other cells -/

theorem State.reg_setHl_of_ne (s : State) (v : Word) {r : Reg8} (hh : r ≠ .h) (hl : r ≠ .l) :
    (s.setHl v).reg r = s.reg r := by
  cases r
  case h => exact absurd rfl hh
  case l => exact absurd rfl hl
  all_goals rfl

theorem State.reg_setPair_of_notMem (s : State) (p : Pair) (v : Word) {r : Reg8} (h : r ∉ pairCells p) :
    (s.setPair p v).reg r = s.reg r := by
  cases p <;> cases r <;> simp_all [pairCells, State.setPair, State.reg]

theorem State.reg_setStackPair_of_notMem (s : State) (q : StackPair) (v : Word) {r : Reg8}
    (h : r ∉ stackPairCells q) : (s.setStackPair q v).reg r = s.reg r := by
  cases q <;> cases r <;> simp_all [stackPairCells, State.setStackPair, State.reg]

/-- CP writes A back as it was, so A is a destination of the other operations alone (R223). -/
theorem State.reg_setReg_aluResult (s : State) {op : AluOp} (v : Byte) {r : Reg8} (h : op ≠ .cp → r ≠ .a) :
    (s.setReg .a (aluResult op s.a v s.f)).reg r = s.reg r := by
  by_cases hop : op = .cp
  · subst hop; cases r <;> rfl
  · exact s.reg_setReg_of_ne _ _ _ (h hop)

theorem State.sp_setPair_of_ne (s : State) {p : Pair} (v : Word) (h : p ≠ .sp) :
    (s.setPair p v).sp = s.sp := by
  cases p
  case sp => exact absurd rfl h
  all_goals rfl

/-! ### A store at HL -/

@[simp] theorem State.setAtHl_sp (s : State) (v : Byte) : (s.setAtHl v).sp = s.sp := s.memWrite_sp _ _
@[simp] theorem State.setAtHl_pc (s : State) (v : Byte) : (s.setAtHl v).pc = s.pc := s.memWrite_pc _ _
@[simp] theorem State.setAtHl_cfg (s : State) (v : Byte) : (s.setAtHl v).cfg = s.cfg := s.memWrite_cfg _ _
@[simp] theorem State.reg_setAtHl (s : State) (r : Reg8) (v : Byte) : (s.setAtHl v).reg r = s.reg r :=
  s.reg_memWrite _ _ _

/-! ### The two outcomes of a conditional transfer -/

/-- A meaning that branches on its condition leaves one of the two states (R302, R305, R307, R309). -/
theorem eq_or_eq_of_ite_next {c : Prop} [Decidable c] {u v t : State}
    (h : (if c then .next u else .next v : Result) = .next t) : t = u ∨ t = v := by
  split at h
  · exact .inl (Host.Outcome.next.inj h).symm
  · exact .inr (Host.Outcome.next.inj h).symm

end Sys2Proof.Machine
end

section
/-! SUPPORT. The register frame (O25): one lemma for each part of the frame, over the forms. -/

namespace Sys2Proof.Machine

/-- A form leaves every data register that is none of its destinations. -/
theorem execForm_reg_of_notMem {f : Form} {s t : State} {r : Reg8} (h : execForm f s = .next t)
    (hr : r ∉ destinations f) : t.reg r = s.reg r := by
  cases f
  case jpCc | jrCc | callCc | retCc => obtain rfl | rfl := eq_or_eq_of_ite_next h <;> simp
  all_goals
    cases h
    simp_all [destinations, State.hlIncremented, State.hlDecremented, State.reg_setReg_of_ne,
      State.reg_setReg_aluResult, State.reg_setHl_of_ne, State.reg_setPair_of_notMem,
      State.reg_setStackPair_of_notMem]

/-- A form that neither names SP nor uses the stack leaves SP. -/
theorem execForm_sp {f : Form} {s t : State} (h : execForm f s = .next t) (hf : writesSp f = false) :
    t.sp = s.sp := by
  cases f
  case jpCc | jrCc => obtain rfl | rfl := eq_or_eq_of_ite_next h <;> simp
  case ldSpHl | addSpE | push | pop | call | callCc | ret | retCc | rst | reti => cases hf
  all_goals
    cases h
    simp_all [writesSp, State.sp_setPair_of_ne]

/-- A form that transfers no control leaves PC. -/
theorem execForm_pc {f : Form} {s t : State} (h : execForm f s = .next t)
    (hf : transfersControl f = false) : t.pc = s.pc := by
  cases f
  case jp | jpCc | jpHl | jr | jrCc | call | callCc | ret | retCc | rst | reti => cases hf
  all_goals
    cases h
    simp

/-- Settles O25: each instruction has the meaning of its form, and the frame holds of every form. -/
theorem registerFrame : Obligations.RegisterFrame := by
  unfold Obligations.RegisterFrame
  intro i s t h
  rw [exec_eq_execForm] at h
  exact ⟨fun r => execForm_reg_of_notMem h, execForm_sp h, execForm_pc h⟩

end Sys2Proof.Machine
end

section
/-! SUPPORT. The stack (O24): a word pushed to two plain addresses is popped again. -/

namespace Sys2Proof.Machine

/-- A CPU write to any address but LY touches the address itself. -/
theorem self_mem_touched {x : Word} (h : x ≠ 0xFF44) : x ∈ touched x := by
  unfold touched
  split_ifs <;> simp

/-- An address and its echo are 0x2000 apart, so a CPU write does not touch the next address. -/
theorem succ_notMem_touched (x : Word) : x + 1 ∉ touched x := by
  have above : x + 1 ≠ x + 0x2000 := by bv_omega
  have below : x + 1 ≠ x - 0x2000 := by bv_omega
  have self : x + 1 ≠ x := by bv_omega
  unfold touched
  split_ifs <;> simp only [List.mem_cons, List.not_mem_nil, self, above, below, or_self, not_false_eq_true]

/-- A byte is stored as it is written, but for SC and DIV. -/
theorem landed_of_ne {x : Word} (v : Byte) (h2 : x ≠ 0xFF02) (h4 : x ≠ 0xFF04) : landed x v = v := by
  rw [landed, if_neg (fun h => h2 h.1), if_neg h4]

/-- Where the byte stored is the byte written, it is read back. -/
theorem State.rawRead_memWrite_self (s : State) {x : Word} (v : Byte)
    (h : x ≠ 0xFF02 ∧ x ≠ 0xFF04 ∧ x ≠ 0xFF44) : (s.memWrite x v).rawRead x = v := by
  obtain ⟨h2, h4, h44⟩ := h
  rw [State.rawRead_memWrite, if_pos (self_mem_touched h44), landed_of_ne v h2 h4]

/-- `popWord` depends on memory and SP alone. -/
theorem State.popWord_congr {s t : State} (hm : s.mem = t.mem) (hsp : s.sp = t.sp) :
    s.popWord = t.popWord := by
  unfold State.popWord State.memRead
  rw [hsp, State.rawRead_congr hm, State.rawRead_congr hm]

/-- A word pushed to two plain addresses is the word that a pop returns (R14). -/
theorem State.popWord_push16 (s : State) (v : Word)
    (h : ∀ x ∈ [s.sp - 1, s.sp - 2], x ≠ 0xFF02 ∧ x ≠ 0xFF04 ∧ x ≠ 0xFF44) :
    (s.push16 v).popWord = v := by
  have next : s.sp - 1 = s.sp - 2 + 1 := by bv_omega
  have low : (s.push16 v).rawRead (s.sp - 2) = lo8 v := by
    rw [State.push16_eq]
    exact State.rawRead_memWrite_self _ _ (h _ (by simp))
  have high : (s.push16 v).rawRead (s.sp - 2 + 1) = hi8 v := by
    rw [State.push16_eq, ← next]
    calc ((s.memWrite (s.sp - 1) (hi8 v)).memWrite (s.sp - 2) (lo8 v)).rawRead (s.sp - 1)
      _ = (s.memWrite (s.sp - 1) (hi8 v)).rawRead (s.sp - 1) :=
        State.rawRead_memWrite_of_notMem _ _ _ _ (next ▸ succ_notMem_touched _)
      _ = hi8 v := State.rawRead_memWrite_self _ _ (h _ (by simp))
  unfold State.popWord State.memRead
  rw [State.push16_sp, low, high, cat_hi8_lo8]

/-- A pop after a push leaves SP where it was. -/
theorem State.popped_push16_sp (s : State) (v : Word) : (s.push16 v).popped.sp = s.sp := by
  rw [State.popped_sp, State.push16_sp]
  bv_omega

/-- Settles O24: a RET pops the word that the CALL pushed, which is the PC past the CALL. -/
theorem pushThenPop : Obligations.PushThenPop := by
  unfold Obligations.PushThenPop
  intro s v hplain
  refine ⟨s.popWord_push16 v hplain, s.popped_push16_sp v, ?_⟩
  intro target t t' u hcall hmem hsp hret
  cases hcall
  cases hret
  simp only [State.returns_mem, State.setPc_mem, State.returns_sp, State.setPc_sp] at hmem hsp
  simp only [State.returns_pc, State.setPc_pc, State.returns_sp, State.setPc_sp, State.popped_sp]
  constructor
  · rw [State.popWord_congr hmem hsp, s.popWord_push16 s.pc hplain]
  · rw [hsp, ← State.popped_sp, s.popped_push16_sp s.pc]

end Sys2Proof.Machine
end

section
/-! SUPPORT. The serial output and the parameters (O60): what each transition does to them. -/

namespace Sys2Proof.Machine

/-! ### What a CPU write appends -/

theorem State.isPrefix_serialOut_memWrite {s : State} {sent : List Byte} (h : sent <+: s.serialOut)
    (x : Word) (v : Byte) : sent <+: (s.memWrite x v).serialOut := by
  rw [State.serialOut_memWrite]
  split
  · exact h.trans (List.prefix_append _ _)
  · exact h

theorem State.isPrefix_serialOut_push16 {s : State} {sent : List Byte} (h : sent <+: s.serialOut)
    (v : Word) : sent <+: (s.push16 v).serialOut := by
  rw [State.push16_eq]
  exact isPrefix_serialOut_memWrite (isPrefix_serialOut_memWrite h _ _) _ _

/-! ### The instructions and the interrupt -/

/-- No form changes a parameter (R9). -/
theorem execForm_cfg {f : Form} {s t : State} (h : execForm f s = .next t) : t.cfg = s.cfg := by
  cases f
  case jpCc | jrCc | callCc | retCc => obtain rfl | rfl := eq_or_eq_of_ite_next h <;> simp
  all_goals
    cases h
    simp

/-- A store that steps HL appends what its CPU write does. -/
theorem storeAdjusting_serialOut {t s u : State} (h : storeAdjusting t s = .next u)
    (ht : t.serialOut = s.serialOut) : s.serialOut <+: u.serialOut := by
  cases h
  exact ht ▸ State.isPrefix_serialOut_memWrite (List.prefix_refl _) _ _

/-- A form only appends to the serial output (R51): its CPU writes do, and nothing else writes it. -/
theorem execForm_serialOut {f : Form} {s t : State} (h : execForm f s = .next t) :
    s.serialOut <+: t.serialOut := by
  cases f
  case jpCc | jrCc | callCc | retCc =>
    obtain rfl | rfl := eq_or_eq_of_ite_next h <;> simp [State.isPrefix_serialOut_push16]
  case ldHliA | ldHldA => exact storeAdjusting_serialOut h rfl
  all_goals
    cases h
    simp [State.setAtHl, State.isPrefix_serialOut_memWrite, State.isPrefix_serialOut_push16]

@[simp] theorem State.takeInterrupt_cfg (s : State) : s.takeInterrupt.cfg = s.cfg := by
  simp [State.takeInterrupt]

theorem State.takeInterrupt_serialOut (s : State) : s.serialOut <+: s.takeInterrupt.serialOut := by
  simp [State.takeInterrupt, State.isPrefix_serialOut_push16]

/-! ### The CPU step -/

@[simp] theorem State.afterInstruction_cfg (s : State) : s.afterInstruction.cfg = s.cfg := by
  unfold State.afterInstruction
  split <;> simp
@[simp] theorem State.afterInstruction_serialOut (s : State) :
    s.afterInstruction.serialOut = s.serialOut := by
  unfold State.afterInstruction
  split <;> simp
@[simp] theorem State.afterCpu_cfg (s : State) : s.afterCpu.cfg = s.cfg := by
  unfold State.afterCpu
  split <;> rfl
@[simp] theorem State.afterCpu_serialOut (s : State) : s.afterCpu.serialOut = s.serialOut := by
  unfold State.afterCpu
  split <;> rfl

/-- A CPU step keeps the parameters and only appends to the serial output. -/
theorem State.cpuStep_cfg_serialOut {s u : State} (h : s.cpuStep = .next u) :
    u.cfg = s.cfg ∧ s.serialOut <+: u.serialOut := by
  obtain ⟨-, -, idle⟩ | ⟨-, -, interrupt⟩ | ⟨-, -, t, run, instruction⟩ := cpuStep_cases s
  · obtain rfl := Host.Outcome.next.inj (h.symm.trans idle)
    simp
  · obtain rfl := Host.Outcome.next.inj (h.symm.trans interrupt)
    rw [State.endStep_cfg, State.endStep_serialOut, State.takeInterrupt_cfg]
    exact ⟨rfl, s.awake.takeInterrupt_serialOut⟩
  · obtain rfl := Host.Outcome.next.inj (h.symm.trans instruction)
    rw [exec_eq_execForm] at run
    rw [State.afterInstruction_cfg, State.afterInstruction_serialOut]
    exact ⟨(execForm_cfg run :), (execForm_serialOut run :)⟩

/-! ### The other transitions: the serial output and the parameters are as before -/

@[simp] theorem State.tickTransition_cfg (s : State) : s.tickTransition.cfg = s.cfg := by
  show (s.tick (s.cycles.getD 0)).cfg = s.cfg
  rw [State.tick_eq]
@[simp] theorem State.tickTransition_serialOut (s : State) : s.tickTransition.serialOut = s.serialOut := by
  show (s.tick (s.cycles.getD 0)).serialOut = s.serialOut
  rw [State.tick_eq]
@[simp] theorem State.drawTransition_cfg (s : State) : s.drawTransition.cfg = s.cfg := by
  show s.afterDraw.cfg = s.cfg
  rw [State.afterDraw_eq]
@[simp] theorem State.drawTransition_serialOut (s : State) : s.drawTransition.serialOut = s.serialOut := by
  show s.afterDraw.serialOut = s.serialOut
  rw [State.afterDraw_eq]

/-- Settles O60, by the four transitions of a step. -/
theorem serialIsAppendOnly : Obligations.SerialIsAppendOnly := by
  unfold Obligations.SerialIsAppendOnly
  intro s t h
  obtain ⟨-, ⟨-, rfl⟩ | ⟨hcpu, u, hu, rfl⟩ | ⟨-, rfl⟩ | ⟨-, rfl⟩⟩ := step_cases h
  · exact ⟨rfl, [], (List.append_nil _).symm, fun _ => rfl⟩
  · obtain ⟨hcfg, sent, hsent⟩ := State.cpuStep_cfg_serialOut hu
    exact ⟨u.afterCpu_cfg.trans hcfg, sent, u.afterCpu_serialOut.trans hsent.symm, fun hp => absurd hcpu hp⟩
  · exact ⟨s.tickTransition_cfg, [], by simp, fun _ => rfl⟩
  · exact ⟨s.drawTransition_cfg, [], by simp, fun _ => rfl⟩

end Sys2Proof.Machine
end

section
/-! SUPPORT. The decoder on the three bytes at PC: the first byte fixes the length of the instruction, and the
bytes past that length do not matter (R100, R101). -/

namespace Sys2Proof

open Sys2Proof.Machine

/-! ### The length of a decoded instruction, and the bytes it depends on -/

/-- How the cells of two copies of a map compare, where the copies share the first `k` bytes: the two
instructions have one length, and are the same where that length is at most `k`. -/
structure SameUpTo (k : Nat) (i j : Instr) : Prop where
  length_eq : i.length = j.length
  eq_of_le : i.length ≤ k → i = j

@[simp] theorem SameUpTo.refl (k : Nat) (i : Instr) : SameUpTo k i i := ⟨rfl, fun _ => rfl⟩

theorem forall₂_getD {α β : Type} {R : α → β → Prop} {l : List α} {l' : List β} {d : α} {d' : β}
    (h : List.Forall₂ R l l') (hd : R d d') (k : Nat) : R (l.getD k d) (l'.getD k d') := by
  induction h generalizing k with
  | nil => exact hd
  | cons hab _ ih =>
    cases k with
    | zero => exact hab
    | succ k => exact ih k

/-- A relation between the cells of two maps holds between the cells that a byte selects. -/
theorem mapCell_rel {R : Instr → Instr → Prop} {m m' : List (List Instr)}
    (h : List.Forall₂ (List.Forall₂ R) m m') (hd : R .nop .nop) (op : Byte) :
    R (mapCell m op) (mapCell m' op) :=
  forall₂_getD (forall₂_getD h .nil _) hd _

theorem cbInstr_length : ∀ op2 : Byte, (cbInstr op2).length = 2 := by decide

/-- An instruction of `len` bytes is the same in both copies where they share its operand. -/
theorem SameUpTo.of_operand {k len : Nat} {α : Type} (f : α → Instr) (hf : ∀ x, (f x).length = len) {x y : α}
    (h : len ≤ k → x = y) : SameUpTo k (f x) (f y) :=
  ⟨by rw [hf, hf], fun hk => by rw [h (hf x ▸ hk)]⟩

/-- Two copies of the primary map agree in the cells whose operands they share. -/
theorem primaryMap_sameUpTo {k : Nat} {n n' : Byte} {nn nn' : Word} (hn : 2 ≤ k → n = n')
    (hnn : 3 ≤ k → nn = nn') :
    List.Forall₂ (List.Forall₂ (SameUpTo k)) (primaryMap n nn) (primaryMap n' nn') := by
  have byteCell (f : Byte → Instr) (hf : ∀ b, (f b).length = 2) : SameUpTo k (f n) (f n') := .of_operand f hf hn
  have wordCell (f : Word → Instr) (hf : ∀ w, (f w).length = 3) : SameUpTo k (f nn) (f nn') := .of_operand f hf hnn
  have prefixCell : SameUpTo k (cbInstr n) (cbInstr n') := byteCell cbInstr cbInstr_length
  simp only [primaryMap, primaryRow0, primaryRow1, primaryRow2, primaryRow3, primaryRow4, primaryRow5,
    primaryRow6, primaryRow7, primaryRow8, primaryRow9, primaryRowA, primaryRowB, primaryRowC, primaryRowD,
    primaryRowE, primaryRowF, List.cons_append, List.nil_append, List.forall₂_cons, List.Forall₂.nil,
    SameUpTo.refl, prefixCell, true_and, and_true]
  and_intros
  -- what is left are the cells with a byte operand and those with a word operand
  all_goals first
    | exact byteCell _ fun _ => rfl
    | exact wordCell _ fun _ => rfl

theorem decodeBytes_sameUpTo {k : Nat} (op : Byte) {b1 b1' b2 b2' : Byte} (h1 : 2 ≤ k → b1 = b1')
    (h2 : 3 ≤ k → cat b2 b1 = cat b2' b1') : SameUpTo k (decodeBytes op b1 b2) (decodeBytes op b1' b2') :=
  mapCell_rel (primaryMap_sameUpTo h1 h2) (.refl _ _) op

/-- The first byte fixes the length (R101). -/
theorem decodeBytes_length (op b1 b2 : Byte) : (decodeBytes op b1 b2).length = opLength op := by
  have table : ∀ op : Byte, (decodeBytes op 0 0).length = opLength op := by decide
  have same : SameUpTo 0 (decodeBytes op b1 b2) (decodeBytes op 0 0) :=
    decodeBytes_sameUpTo op (by omega) (by omega)
  exact same.length_eq.trans (table op)

theorem decodeBytes_of_opLength_one {op : Byte} (h : opLength op = 1) (b1 b2 : Byte) :
    decodeBytes op b1 b2 = decodeBytes op 0 0 := by
  have same : SameUpTo 1 (decodeBytes op b1 b2) (decodeBytes op 0 0) :=
    decodeBytes_sameUpTo op (by omega) (by omega)
  exact same.eq_of_le (by rw [decodeBytes_length, h])

theorem decodeBytes_of_opLength_two {op : Byte} (h : opLength op = 2) (b1 b2 : Byte) :
    decodeBytes op b1 b2 = decodeBytes op b1 0 := by
  have same : SameUpTo 2 (decodeBytes op b1 b2) (decodeBytes op b1 0) :=
    decodeBytes_sameUpTo op (fun _ => rfl) (by omega)
  exact same.eq_of_le (by rw [decodeBytes_length, h])

/-! ### The decoder on three bytes -/

theorem opLength_cases (op : Byte) : opLength op = 1 ∨ opLength op = 2 ∨ opLength op = 3 := by
  unfold opLength
  split_ifs <;> simp

/-- Three bytes always hold an instruction; the decoder gives back those it does not use. -/
theorem decode_threeBytes (op b1 b2 : Byte) :
    decode [op, b1, b2] = .ok (decodeBytes op b1 b2) ([b1, b2].drop (opLength op - 1)) := by
  unfold decode
  rcases opLength_cases op with h | h | h
  · rw [decodeBytes_of_opLength_one h]; simp [h]
  · rw [decodeBytes_of_opLength_two h]; simp [h]
  · simp [h]

end Sys2Proof
end

section
/-! SUPPORT. The CPU step of a running state (O29). -/

namespace Sys2Proof.Machine

/-- The instruction that the CPU step fetches is the one that the bytes at PC decode to (R100). -/
theorem State.fetched_eq_of_decode {s : State} {i : Instr} {rest : List Byte}
    (h : decode [s.rawRead s.pc, s.rawRead (s.pc + 1), s.rawRead (s.pc + 2)] = .ok i rest) :
    s.fetched = i := by
  rw [decode_threeBytes] at h
  exact (Decoded.ok.inj h).1

/-- The fetch moves PC past the fetched instruction (R16). -/
theorem State.pastFetched_eq (s : State) :
    s.pastFetched = { s with pc := s.pc + BitVec.ofNat 16 s.fetched.length } := by
  rw [State.fetched, decodeBytes_length]
  rfl

/-- The CPU's transition is its step and what follows it. -/
theorem step_of_cpuStep {s t : State} (hf : s.fault = none) (hp : s.phase = .cpu)
    (h : s.cpuStep = .next t) : step s = .next t.afterCpu := by
  simp only [step, hf, State.transition, hp, State.cpuTransition, h]

/-- What follows an instruction: the end of the step and the tick, unless it recorded an error. -/
theorem State.afterCpu_afterInstruction (t : State) :
    t.afterInstruction.afterCpu = if t.fault = none then
        { t with ime := if t.wroteSchedule then t.ime else t.scheduledIme, phase := .tick }
      else t := by
  cases hf : t.fault with
  | some r => simp [State.afterInstruction, State.afterCpu, hf]
  | none => cases hw : t.wroteSchedule <;> simp [State.afterInstruction, State.afterCpu, State.endStep, hf, hw]

theorem State.dispatches_eq_false_iff (s : State) :
    s.dispatches = false ↔ ¬ (s.cfg.irqDispatch = true ∧ s.ime = true ∧ s.pending ≠ 0) := by
  rw [← Bool.not_eq_true]
  simp [State.dispatches, and_assoc]

/-- Settles O29: of the three ways of a CPU step, only the run of an instruction is left. -/
theorem stepRunsDecodedInstruction : Obligations.StepRunsDecodedInstruction := by
  unfold Obligations.StepRunsDecodedInstruction
  intro s i rest hfault hphase hruns hnoIrq hdecode
  rw [← State.dispatches_eq_false_iff] at hnoIrq
  obtain ⟨hhalted, hpending, -⟩ | ⟨-, hirq, -⟩ | ⟨-, -, t, hexec, hstep⟩ := cpuStep_cases s
  · exact absurd hpending (hruns.resolve_left (by simp [hhalted]))
  · exact absurd hirq (by simp [hnoIrq])
  · refine ⟨t, ?_, ?_⟩
    · have hi : s.fetched = i := State.fetched_eq_of_decode hdecode
      have hawake : s.awake.fetched = i := State.fetched_eq_of_decode hdecode
      rw [State.pastFetched_eq, hi, hawake] at hexec
      exact hexec
    · rw [step_of_cpuStep hfault hphase hstep, State.afterCpu_afterInstruction]

end Sys2Proof.Machine
end

section
/-! SUPPORT. What an instruction does to memory, div, the DMA controller and the serial output, said once: the CPU
writes that `storeAddresses` lists, in order, and nothing else. So what every CPU write keeps, every CPU step keeps. -/

namespace Sys2Proof.Machine

/-! ### The part of the state that a CPU write acts on -/

/-- What a CPU write reads and changes (R64 to R71). -/
structure Bus where
  mem       : Memory
  div       : Word
  dma       : Dma
  serialOut : List Byte

def State.bus (s : State) : Bus := ⟨s.mem, s.div, s.dma, s.serialOut⟩

theorem State.mem_eq_of_bus {s t : State} (h : t.bus = s.bus) : t.mem = s.mem := congrArg Bus.mem h
theorem State.div_eq_of_bus {s t : State} (h : t.bus = s.bus) : t.div = s.div := congrArg Bus.div h
theorem State.dma_eq_of_bus {s t : State} (h : t.bus = s.bus) : t.dma = s.dma := congrArg Bus.dma h

@[simp] theorem State.bus_returns (s : State) (n : Nat) : (s.returns n).bus = s.bus := rfl
@[simp] theorem State.bus_setFlags (s : State) (g : Flags) : (s.setFlags g).bus = s.bus := rfl
@[simp] theorem State.bus_setPc (s : State) (x : Word) : (s.setPc x).bus = s.bus := rfl
@[simp] theorem State.bus_awake (s : State) : s.awake.bus = s.bus := rfl
@[simp] theorem State.bus_pastFetched (s : State) : s.pastFetched.bus = s.bus := rfl
@[simp] theorem State.bus_endStep (s : State) : s.endStep.bus = s.bus := by simp [State.bus]
@[simp] theorem State.bus_afterInstruction (s : State) : s.afterInstruction.bus = s.bus := by
  unfold State.afterInstruction
  split <;> simp
@[simp] theorem State.bus_afterCpu (s : State) : s.afterCpu.bus = s.bus := by
  unfold State.afterCpu
  split <;> rfl

/-- A CPU write acts on the bus by the bus alone. -/
theorem State.bus_memWrite_congr {s u : State} (h : s.bus = u.bus) (x : Word) (v : Byte) :
    (s.memWrite x v).bus = (u.memWrite x v).bus := by
  obtain ⟨hmem, hdiv, hdma, hserial⟩ := Bus.mk.inj h
  unfold State.memWrite
  split_ifs <;> simp [State.bus, State.rawRead, hmem, hdiv, hdma, hserial]

theorem State.bus_push16 (s : State) (v : Word) :
    (s.push16 v).bus = ((s.memWrite (s.sp - 1) (hi8 v)).memWrite (s.sp - 2) (lo8 v)).bus := by
  rw [State.push16_eq]
  rfl

/-! ### The CPU writes of an instruction -/

/-- CPU writes, one after the other. -/
def State.stores (s : State) (ws : List (Word × Byte)) : State :=
  ws.foldl (fun u w => u.memWrite w.1 w.2) s

/-- `t` has the bus that CPU writes at the addresses `xs` leave, from `s`. -/
def State.StoresTo (s : State) (xs : List Word) (t : State) : Prop :=
  ∃ ws, ws.map Prod.fst = xs ∧ t.bus = (s.stores ws).bus

theorem State.StoresTo.nil {s t : State} (h : t.bus = s.bus) : s.StoresTo [] t := ⟨[], rfl, h⟩

theorem State.StoresTo.single {s t : State} {x : Word} (v : Byte) (h : t.bus = (s.memWrite x v).bus) :
    s.StoresTo [x] t := ⟨[(x, v)], rfl, h⟩

theorem State.StoresTo.push16 {s t : State} (v : Word) (h : t.bus = (s.push16 v).bus) :
    s.StoresTo [s.sp - 1, s.sp - 2] t :=
  ⟨[(s.sp - 1, hi8 v), (s.sp - 2, lo8 v)], rfl, h.trans (s.bus_push16 v)⟩

/-- A form changes the bus by the CPU writes that `storeAddresses` lists. -/
theorem execForm_storesTo {f : Form} {s t : State} (h : execForm f s = .next t) :
    s.StoresTo (storeAddresses s f) t := by
  cases f
  case ldHlR | ldHlN | ldBcA | ldDeA | ldNnA | ldhNA | ldCA | incHl | decHl | rotHl | resHl | setHl =>
    cases h
    exact .single _ rfl
  case ldHliA | ldHldA =>
    cases h
    exact .single s.a (State.bus_memWrite_congr (by rfl) s.hl s.a)
  case ldNnSp nn =>
    cases h
    exact ⟨[(nn, lo8 s.sp), (nn + 1, hi8 s.sp)], rfl, rfl⟩
  case push q =>
    cases h
    exact .push16 (s.stackPair q) (by simp)
  case call | rst =>
    cases h
    exact .push16 s.pc (by simp)
  case callCc cc nn =>
    simp only [execForm, callIf, callTo] at h
    simp only [storeAddresses]
    split at h
    · cases h
      rw [if_pos ‹_›]
      exact .push16 s.pc (by simp)
    · cases h
      rw [if_neg ‹_›]
      exact .nil rfl
  case jpCc | jrCc | retCc =>
    obtain rfl | rfl := eq_or_eq_of_ite_next h <;> exact .nil rfl
  all_goals
    cases h
    exact .nil (by simp [State.bus])

/-! ### What every CPU write keeps -/

/-- A property of the bus that CPU writes keep, and the acknowledgement of an interrupt (R421). -/
structure BusInvariant (P : State → Prop) : Prop where
  congr : ∀ {s t : State}, t.bus = s.bus → P s → P t
  memWrite : ∀ {s : State} (x : Word) (v : Byte), P s → P (s.memWrite x v)
  acknowledge : ∀ {s : State} (v : Byte), P s → P (s.rawWrite 0xFF0F v)

section
variable {P : State → Prop} (hP : BusInvariant P)
include hP

theorem BusInvariant.stores {s : State} (ws : List (Word × Byte)) (hs : P s) : P (s.stores ws) := by
  induction ws generalizing s with
  | nil => exact hs
  | cons w ws ih => exact ih (hP.memWrite _ _ hs)

theorem BusInvariant.execForm {f : Form} {s t : State} (h : execForm f s = .next t) (hs : P s) : P t := by
  obtain ⟨ws, -, hbus⟩ := execForm_storesTo h
  exact hP.congr hbus (hP.stores ws hs)

theorem BusInvariant.push16 {s : State} (v : Word) (hs : P s) : P (s.push16 v) :=
  hP.congr (s.bus_push16 v) (hP.memWrite _ _ (hP.memWrite _ _ hs))

theorem BusInvariant.takeInterrupt {s : State} (hs : P s) : P s.takeInterrupt := by
  have hack := hP.acknowledge (s.rawRead 0xFF0F &&& ~~~(0x01#8 <<< lowestPending s.pending)) hs
  unfold State.takeInterrupt
  exact hP.congr ((State.bus_returns _ _).trans (State.bus_setPc _ _)) (hP.push16 _ (hP.congr (by rfl) hack))

theorem BusInvariant.cpuStep {s u : State} (h : s.cpuStep = .next u) (hs : P s) : P u := by
  obtain ⟨-, -, idle⟩ | ⟨-, -, interrupt⟩ | ⟨-, -, t, run, instruction⟩ := cpuStep_cases s
  · obtain rfl := Host.Outcome.next.inj (h.symm.trans idle)
    exact hP.congr (by simp [State.bus]) hs
  · obtain rfl := Host.Outcome.next.inj (h.symm.trans interrupt)
    exact hP.congr (by simp) (hP.takeInterrupt (hP.congr s.bus_awake hs))
  · obtain rfl := Host.Outcome.next.inj (h.symm.trans instruction)
    rw [exec_eq_execForm] at run
    exact hP.congr (by simp) (hP.execForm run (hP.congr (by simp) hs))

end

end Sys2Proof.Machine
end

section
/-! SUPPORT. The hidden state over the forms (O28): what no instruction changes, what one group of instructions
changes, and what the CPU writes change. -/

namespace Sys2Proof.Machine

/-! ### A store at HL -/

@[simp] theorem State.setAtHl_ime (s : State) (v : Byte) : (s.setAtHl v).ime = s.ime := s.memWrite_ime _ _
@[simp] theorem State.setAtHl_scheduledIme (s : State) (v : Byte) :
    (s.setAtHl v).scheduledIme = s.scheduledIme := s.memWrite_scheduledIme _ _
@[simp] theorem State.setAtHl_wroteSchedule (s : State) (v : Byte) :
    (s.setAtHl v).wroteSchedule = s.wroteSchedule := s.memWrite_wroteSchedule _ _
@[simp] theorem State.setAtHl_halted (s : State) (v : Byte) : (s.setAtHl v).halted = s.halted :=
  s.memWrite_halted _ _
@[simp] theorem State.setAtHl_fault (s : State) (v : Byte) : (s.setAtHl v).fault = s.fault :=
  s.memWrite_fault _ _

/-! ### What no instruction changes -/

/-- The fields of the timer and of the host loop that no instruction, CPU write or interrupt touches (R47, R472). -/
structure SameLoop (s t : State) : Prop where
  overflow : t.overflow = s.overflow
  phase : t.phase = s.phase
  line : t.line = s.line
  budget : t.budget = s.budget
  scanline : t.scanline = s.scanline
  cfg : t.cfg = s.cfg

/-- No form touches the loop's fields. -/
theorem execForm_sameLoop {f : Form} {s t : State} (h : execForm f s = .next t) : SameLoop s t := by
  cases f
  case jpCc | jrCc | callCc | retCc => obtain rfl | rfl := eq_or_eq_of_ite_next h <;> constructor <;> simp
  all_goals
    cases h
    constructor <;> simp [State.setAtHl]

/-! ### What one group of instructions changes -/

/-- Only DI, EI and RETI write the interrupt enable and its schedule (R411). -/
theorem execForm_ime {f : Form} {s t : State} (h : execForm f s = .next t) (hf : schedulesIme f = false) :
    t.ime = s.ime ∧ t.scheduledIme = s.scheduledIme ∧ t.wroteSchedule = s.wroteSchedule := by
  cases f
  case di | ei | reti => cases hf
  case jpCc | jrCc | callCc | retCc => obtain rfl | rfl := eq_or_eq_of_ite_next h <;> simp
  all_goals
    cases h
    simp

/-- Only HALT and STOP set the halted flag (R341, R342). -/
theorem execForm_halted {f : Form} {s t : State} (h : execForm f s = .next t) (hstop : ∀ x, f ≠ .stop x)
    (hhalt : f ≠ .halt) : t.halted = s.halted := by
  cases f
  case stop x => exact absurd rfl (hstop x)
  case halt => exact absurd rfl hhalt
  case jpCc | jrCc | callCc | retCc => obtain rfl | rfl := eq_or_eq_of_ite_next h <;> simp
  all_goals
    cases h
    simp

/-- Only an unassigned byte records an error (R346). -/
theorem execForm_fault {f : Form} {s t : State} (h : execForm f s = .next t) (hf : ∀ op, f ≠ .unsupported op) :
    t.fault = s.fault := by
  cases f
  case unsupported op => exact absurd rfl (hf op)
  case jpCc | jrCc | callCc | retCc => obtain rfl | rfl := eq_or_eq_of_ite_next h <;> simp
  all_goals
    cases h
    simp

/-! ### What the CPU writes change -/

/-- A part of the bus that a CPU write changes at `x` alone is left by CPU writes to other addresses. -/
theorem State.StoresTo.eq_of_notMem {α : Type} {get : Bus → α} {x : Word}
    (hget : ∀ (u : State) (y : Word) (v : Byte), y ≠ x → get (u.memWrite y v).bus = get u.bus)
    {s t : State} {xs : List Word} (h : s.StoresTo xs t) (hx : x ∉ xs) : get t.bus = get s.bus := by
  obtain ⟨ws, rfl, hbus⟩ := h
  rw [hbus]
  clear hbus
  induction ws generalizing s with
  | nil => rfl
  | cons w ws ih =>
    rw [List.map_cons, List.mem_cons, not_or] at hx
    obtain ⟨hw, hws⟩ := hx
    exact (ih hws).trans (hget s _ _ (Ne.symm hw))

theorem execForm_div {f : Form} {s t : State} (h : execForm f s = .next t) (hf : 0xFF04 ∉ storeAddresses s f) :
    t.div = s.div :=
  (execForm_storesTo h).eq_of_notMem (get := Bus.div)
    (fun u y v hy => (u.div_memWrite y v).trans (if_neg hy)) hf

theorem execForm_dma {f : Form} {s t : State} (h : execForm f s = .next t) (hf : 0xFF46 ∉ storeAddresses s f) :
    t.dma = s.dma :=
  (execForm_storesTo h).eq_of_notMem (get := Bus.dma)
    (fun u y v hy => (u.dma_memWrite y v).trans (if_neg hy)) hf

theorem execForm_serialOut_of_notMem {f : Form} {s t : State} (h : execForm f s = .next t)
    (hf : 0xFF02 ∉ storeAddresses s f) : t.serialOut = s.serialOut :=
  (execForm_storesTo h).eq_of_notMem (get := Bus.serialOut)
    (fun u y v hy => (u.serialOut_memWrite y v).trans (if_neg fun h => hy h.1)) hf

/-- Settles O28: each instruction has the meaning of its form, and each part of the frame holds of every form. -/
theorem hiddenStateFrame : Obligations.HiddenStateFrame := by
  unfold Obligations.HiddenStateFrame
  intro i s t h
  rw [exec_eq_execForm] at h
  obtain ⟨overflow, phase, line, budget, scanline, cfg⟩ := execForm_sameLoop h
  exact ⟨overflow, phase, line, budget, scanline, cfg, execForm_ime h, execForm_halted h, execForm_fault h,
    execForm_div h, execForm_dma h, execForm_serialOut_of_notMem h⟩

end Sys2Proof.Machine
end

section
/-! SUPPORT. LY and DIV (O53, O58): two bytes that CPU writes do not set freely. -/

namespace Sys2Proof.Machine

/-! ### Bytes above the echo RAM -/

/-- A CPU write touches a byte from 0xFE00 on only where it goes to that address (R64, R65). -/
theorem eq_of_mem_touched {x y : Word} (hy : 0xFE00 ≤ y.toNat) (h : y ∈ touched x) : y = x := by
  unfold touched at h
  split_ifs at h <;> simp only [List.mem_cons, List.not_mem_nil, or_false] at h
  all_goals bv_omega

/-! ### LY -/

theorem busInvariant_ly (v : Byte) : BusInvariant (fun s => s.rawRead 0xFF44 = v) where
  congr hbus h := (State.rawRead_congr (State.mem_eq_of_bus hbus) _).trans h
  memWrite x b h := (State.rawRead_memWrite_of_notMem _ x b _ (touched_ne_ly x)).trans h
  acknowledge b h := (State.rawRead_rawWrite _ _ _ b).trans h

/-- Settles O53: of the four transitions only the host's write sets LY. -/
theorem lyIsTheHosts : Obligations.LyIsTheHosts := by
  unfold Obligations.LyIsTheHosts
  intro s t h
  obtain ⟨-, ⟨hp, rfl⟩ | ⟨hp, u, hu, rfl⟩ | ⟨hp, rfl⟩ | ⟨hp, rfl⟩⟩ := step_cases h
  · rw [if_pos hp]
    exact s.rawRead_rawWrite_self 0xFF44 _
  · rw [if_neg (by simp [hp])]
    have keeps := busInvariant_ly (s.rawRead 0xFF44)
    exact keeps.congr u.bus_afterCpu (keeps.cpuStep hu rfl)
  · rw [if_neg (by simp [hp])]
    exact s.rawRead_tick_of_ne _ _ (by decide) (by decide) (by decide) (by decide)
  · rw [if_neg (by simp [hp])]
    exact s.rawRead_afterDraw_of_ne _ (by decide) (by decide)

/-! ### DIV -/

/-- A CPU write to DIV clears the byte and the counter; any other leaves both (R66). -/
theorem State.divShown_memWrite {s : State} (x : Word) (v : Byte) (h : s.divShown) :
    (s.memWrite x v).divShown := by
  unfold State.divShown
  by_cases hx : x = 0xFF04
  · subst hx
    rw [State.rawRead_memWrite, if_pos (self_mem_touched (by decide)), State.div_memWrite, if_pos rfl]
    simp [landed, hi8]
  · have untouched : (0xFF04 : Word) ∉ touched x := fun hmem => hx (eq_of_mem_touched (by decide) hmem).symm
    rw [State.rawRead_memWrite_of_notMem _ _ _ _ untouched, State.div_memWrite, if_neg hx]
    exact h

theorem busInvariant_divShown : BusInvariant State.divShown where
  congr hbus h := by
    unfold State.divShown
    rw [State.rawRead_congr (State.mem_eq_of_bus hbus), State.div_eq_of_bus hbus]
    exact h
  memWrite := State.divShown_memWrite
  acknowledge b h := (State.rawRead_rawWrite _ _ _ b).trans h

/-- A tick publishes div (R433). -/
theorem State.divShown_tick (s : State) (n : Nat) : (s.tick n).divShown :=
  State.rawRead_rawWrite_self _ _ _

/-- Settles O58: a tick publishes div, a CPU write to DIV clears both, and nothing else touches either. -/
theorem stepKeepsDivShown : Obligations.StepKeepsDivShown := by
  unfold Obligations.StepKeepsDivShown
  intro s t hs h
  obtain ⟨-, ⟨-, rfl⟩ | ⟨-, u, hu, rfl⟩ | ⟨-, rfl⟩ | ⟨-, rfl⟩⟩ := step_cases h
  · exact (s.rawRead_rawWrite 0xFF44 0xFF04 _).trans hs
  · exact busInvariant_divShown.congr u.bus_afterCpu (busInvariant_divShown.cpuStep hu hs)
  · exact s.divShown_tick _
  · show s.afterDraw.rawRead 0xFF04 = hi8 s.afterDraw.div
    rw [State.rawRead_afterDraw_of_ne _ _ (by decide) (by decide), State.afterDraw_eq]
    exact hs

end Sys2Proof.Machine
end

section
/-! SUPPORT. The invariant of the machine (O56): its four parts over each transition. -/

namespace Sys2Proof.Machine

theorem State.legal_iff (s : State) :
    s.legal = true ↔
      Memory.wf s.mem = true ∧ s.dma.legal = true ∧ s.line < 154 ∧ budgetLegal s = true := by
  simp [State.legal, and_assoc]

/-! ### Memory and the DMA controller: what every CPU write keeps -/

theorem busInvariant_wf : BusInvariant (fun s => Memory.wf s.mem = true) where
  congr hbus h := by
    rw [State.mem_eq_of_bus hbus]
    exact h
  memWrite := State.wf_memWrite _
  acknowledge := State.wf_rawWrite _ _

/-- A CPU write to DMA starts a transfer at a multiple of 256, with nothing copied (R68). -/
theorem State.legal_dma_memWrite {s : State} (x : Word) (v : Byte) (h : s.dma.legal = true) :
    (s.memWrite x v).dma.legal = true := by
  rw [State.dma_memWrite]
  split
  · simp [Dma.legal, cat_toNat]
  · exact h

theorem busInvariant_dma_legal : BusInvariant (fun s => s.dma.legal = true) where
  congr hbus h := by
    rw [State.dma_eq_of_bus hbus]
    exact h
  memWrite := State.legal_dma_memWrite
  acknowledge _ h := h

theorem State.legal_dma_tick (s : State) (n : Nat) (h : s.dma.legal = true) : (s.tick n).dma.legal = true := by
  have hdma : (s.tick n).dma = (s.dmaProgress n).dma := by
    show (s.dmaProgress n).timerReload.dma = _
    rw [State.timerReload_eq]
  rw [hdma]
  exact s.legal_dmaProgress n h

/-! ### The loop's counters -/

@[simp] theorem State.tick_line (s : State) (n : Nat) : (s.tick n).line = s.line := by rw [State.tick_eq]
@[simp] theorem State.tick_budget (s : State) (n : Nat) : (s.tick n).budget = s.budget := by rw [State.tick_eq]
@[simp] theorem State.tick_cfg (s : State) (n : Nat) : (s.tick n).cfg = s.cfg := by rw [State.tick_eq]

theorem SameLoop.trans {s t u : State} (h : SameLoop s t) (h' : SameLoop t u) : SameLoop s u where
  overflow := h'.overflow.trans h.overflow
  phase := h'.phase.trans h.phase
  line := h'.line.trans h.line
  budget := h'.budget.trans h.budget
  scanline := h'.scanline.trans h.scanline
  cfg := h'.cfg.trans h.cfg

theorem State.takeInterrupt_sameLoop (s : State) : SameLoop s s.takeInterrupt := by
  constructor <;> simp [State.takeInterrupt]

theorem State.endStep_sameLoop (s : State) : SameLoop s s.endStep := by
  constructor <;> simp

theorem State.afterInstruction_sameLoop (s : State) : SameLoop s s.afterInstruction := by
  unfold State.afterInstruction
  split
  · exact s.endStep_sameLoop
  · constructor <;> rfl

/-- A CPU step touches none of the loop's fields (R472). -/
theorem State.cpuStep_sameLoop {s u : State} (h : s.cpuStep = .next u) : SameLoop s u := by
  obtain ⟨-, -, idle⟩ | ⟨-, -, interrupt⟩ | ⟨-, -, t, run, instruction⟩ := cpuStep_cases s
  · obtain rfl := Host.Outcome.next.inj (h.symm.trans idle)
    constructor <;> simp
  · obtain rfl := Host.Outcome.next.inj (h.symm.trans interrupt)
    have awake : SameLoop s s.awake := by constructor <;> rfl
    exact awake.trans (s.awake.takeInterrupt_sameLoop.trans (State.endStep_sameLoop _))
  · obtain rfl := Host.Outcome.next.inj (h.symm.trans instruction)
    rw [exec_eq_execForm] at run
    have fetched : SameLoop s s.awake.pastFetched := by constructor <;> rfl
    exact fetched.trans ((execForm_sameLoop run).trans t.afterInstruction_sameLoop)

/-! ### The count of a CPU step -/

/-- Every form but an unassigned byte returns a legal count (R523). -/
theorem execForm_cycles {f : Form} {s t : State} (h : execForm f s = .next t) (hf : ∀ op, f ≠ .unsupported op) :
    t.cycles.any legalCount = true := by
  cases f
  case unsupported op => exact absurd rfl (hf op)
  case jpCc | jrCc | callCc | retCc => obtain rfl | rfl := eq_or_eq_of_ite_next h <;> rfl
  all_goals
    cases h
    simp [legalCount]

theorem execForm_unsupported_fault {op : Byte} {s t : State} (h : execForm (.unsupported op) s = .next t) :
    t.fault ≠ none := by
  cases h
  simp

@[simp] theorem State.afterInstruction_fault (s : State) : s.afterInstruction.fault = s.fault := by
  unfold State.afterInstruction
  split <;> simp
@[simp] theorem State.afterInstruction_cycles (s : State) : s.afterInstruction.cycles = s.cycles := by
  unfold State.afterInstruction
  split <;> simp

/-- A CPU step that records no error returns a legal count (R523). -/
theorem State.cpuStep_cycles {s u : State} (h : s.cpuStep = .next u) (hu : u.fault = none) :
    u.cycles.any legalCount = true := by
  obtain ⟨-, -, idle⟩ | ⟨-, -, interrupt⟩ | ⟨-, -, t, run, instruction⟩ := cpuStep_cases s
  · obtain rfl := Host.Outcome.next.inj (h.symm.trans idle)
    simp [legalCount]
  · obtain rfl := Host.Outcome.next.inj (h.symm.trans interrupt)
    simp [State.takeInterrupt, legalCount]
  · obtain rfl := Host.Outcome.next.inj (h.symm.trans instruction)
    rw [exec_eq_execForm] at run
    rw [State.afterInstruction_fault] at hu
    rw [State.afterInstruction_cycles]
    refine execForm_cycles run fun op hop => ?_
    rw [hop] at run
    exact execForm_unsupported_fault run hu

/-! ### The four transitions -/

theorem State.legal_lyTransition {s : State} (hp : s.phase = .writeLy) (h : s.legal = true) :
    s.lyTransition.legal = true := by
  rw [State.legal_iff] at h ⊢
  obtain ⟨hmem, hdma, hline, hbudget⟩ := h
  refine ⟨State.wf_rawWrite s 0xFF44 _ hmem, hdma, hline, ?_⟩
  simp only [budgetLegal, hp, decide_eq_true_eq] at hbudget
  by_cases hlt : s.budget < s.cfg.lineBudget
  · simp [State.lyTransition, State.loopTest, budgetLegal, hlt]
  · simp [State.lyTransition, State.loopTest, budgetLegal, hlt]
    omega

theorem State.legal_afterCpu {s u : State} (hp : s.phase = .cpu) (hu : s.cpuStep = .next u) (h : s.legal = true) :
    u.afterCpu.legal = true := by
  rw [State.legal_iff] at h ⊢
  obtain ⟨hmem, hdma, hline, hbudget⟩ := h
  have loop := State.cpuStep_sameLoop hu
  have hmem := busInvariant_wf.cpuStep hu hmem
  have hdma := busInvariant_dma_legal.cpuStep hu hdma
  have hline : u.line < 154 := loop.line ▸ hline
  simp only [budgetLegal, hp, decide_eq_true_eq] at hbudget
  have hbudget : u.budget < u.cfg.lineBudget := by rwa [loop.budget, loop.cfg]
  cases hf : u.fault with
  | none =>
    have hcount := State.cpuStep_cycles hu hf
    simp [State.afterCpu, hf, budgetLegal, hmem, hdma, hline, hbudget, hcount]
  | some r => simp [State.afterCpu, hf, budgetLegal, loop.phase, hp, hmem, hdma, hline, hbudget]

theorem State.legal_tickTransition {s : State} (hp : s.phase = .tick) (h : s.legal = true) :
    s.tickTransition.legal = true := by
  rw [State.legal_iff] at h ⊢
  obtain ⟨hmem, hdma, hline, hbudget⟩ := h
  simp only [budgetLegal, hp, Bool.and_eq_true, decide_eq_true_eq, Option.any_eq_true] at hbudget
  obtain ⟨hbudget, n, hcycles, hcount⟩ := hbudget
  simp only [legalCount, decide_eq_true_eq] at hcount
  have htransition : s.tickTransition = { s.tick n with budget := s.budget + n }.loopTest := by
    simp only [State.tickTransition, hcycles, Option.getD_some, s.tick_budget n]
  rw [htransition]
  refine ⟨s.wf_tick n hmem, s.legal_dma_tick n hdma, (s.tick_line n).symm ▸ hline, ?_⟩
  by_cases hlt : s.budget + n < s.cfg.lineBudget
  · simp [State.loopTest, budgetLegal, hlt]
  · simp [State.loopTest, budgetLegal, hlt]
    omega

theorem State.legal_drawTransition {s : State} (hp : s.phase = .draw) (h : s.legal = true) :
    s.drawTransition.legal = true := by
  rw [State.legal_iff] at h ⊢
  obtain ⟨hmem, hdma, hline, hbudget⟩ := h
  simp only [budgetLegal, hp, decide_eq_true_eq] at hbudget
  refine ⟨s.wf_afterDraw hmem, ?_, Nat.mod_lt _ (by omega), ?_⟩
  · show s.afterDraw.dma.legal = true
    rw [State.afterDraw_eq]
    exact hdma
  · show decide (s.budget - s.cfg.lineBudget < 24) = true
    rw [decide_eq_true_eq]
    omega

/-- Settles O56, by the four transitions of a step. -/
theorem stepKeepsLegal : Obligations.StepKeepsLegal := by
  unfold Obligations.StepKeepsLegal
  intro s t hs h
  obtain ⟨-, ⟨hp, rfl⟩ | ⟨hp, u, hu, rfl⟩ | ⟨hp, rfl⟩ | ⟨hp, rfl⟩⟩ := step_cases h
  · exact State.legal_lyTransition hp hs
  · exact State.legal_afterCpu hp hu hs
  · exact State.legal_tickTransition hp hs
  · exact State.legal_drawTransition hp hs

end Sys2Proof.Machine
end

section
/-! SUPPORT. Registers and pairs (O22): a pair is its two cells, and AF drops the low nibble of F. -/

namespace Sys2Proof.Machine

/-- A pair reads back what was written to it (R22). -/
theorem State.pair_setPair (s : State) (p : Pair) (v : Word) : (s.setPair p v).pair p = v := by
  cases p
  case sp => rfl
  all_goals exact cat_hi8_lo8 v

/-- The flags of a byte keep its bits 7 to 4 and nothing else (R23). -/
theorem Flags.toByte_ofByte (v : Byte) : (Flags.ofByte v).toByte = v &&& 0xF0 := by
  revert v
  decide

/-- AF reads back the written word without the low nibble (R23). -/
theorem State.af_setStackPair_af (s : State) (v : Word) : (s.setStackPair .af v).af = v &&& 0xFFF0 := by
  calc (s.setStackPair .af v).af
    _ = cat (hi8 v) (Flags.ofByte (lo8 v)).toByte := rfl
    _ = cat (hi8 v &&& 0xFF) (lo8 v &&& 0xF0) := by
      rw [Flags.toByte_ofByte, show (0xFF : Byte) = BitVec.allOnes 8 from rfl, BitVec.and_allOnes]
    _ = cat (hi8 v) (lo8 v) &&& cat 0xFF 0xF0 := BitVec.and_append.symm
    _ = v &&& 0xFFF0 := by rw [cat_hi8_lo8]; rfl

/-- Settles O22. -/
theorem registersAndPairs : Obligations.RegistersAndPairs := by
  unfold Obligations.RegistersAndPairs
  intro s r p b v
  have haf : s.af.toNat =
      s.a.toNat * 256 + (128 * s.f.z.toNat + 64 * s.f.n.toNat + 32 * s.f.h.toNat + 16 * s.f.c.toNat) := by
    rw [State.af, cat_toNat, Flags.toByte_toNat]
  have hflags : Flags.ofByte (lo8 v) = ⟨v.getLsbD 7, v.getLsbD 6, v.getLsbD 5, v.getLsbD 4⟩ := by
    simp [Flags.ofByte, lo8]
  refine ⟨s.reg_setReg r b, fun q => s.reg_setReg_of_ne r q b, cat_toNat _ _, cat_toNat _ _, cat_toNat _ _,
    rfl, rfl, rfl, rfl, s.pair_setPair p v, haf, ?_, s.af_setStackPair_af v⟩
  rw [← hflags]
  rfl

end Sys2Proof.Machine
end

section
/-! SUPPORT. The flag frame (O26): what each way of computing flags leaves, and then each form. -/

namespace Sys2Proof.Machine

/-- `g` is `f` but for the flags that `w` marks. -/
structure Flags.SameOutside (w f g : Flags) : Prop where
  z : w.z = false → g.z = f.z
  n : w.n = false → g.n = f.n
  h : w.h = false → g.h = f.h
  c : w.c = false → g.c = f.c

theorem Flags.SameOutside.of_eq {w f g : Flags} (h : g = f) : w.SameOutside f g := by
  constructor <;> exact fun _ => h ▸ rfl

/-- Where all four flags are written there is nothing to keep. -/
theorem Flags.SameOutside.all (f g : Flags) : Flags.SameOutside ⟨true, true, true, true⟩ f g := by
  constructor <;> simp

/-- An accumulator rotate leaves Z unless ROT_A_Z clears it (R260). -/
theorem rotAFlags_sameOutside (g : Config) (op : RotOp) (v : Byte) (f : Flags) :
    Flags.SameOutside ⟨decide (g.rotAZ = .clear), true, true, true⟩ f (rotAFlags g op v f) := by
  constructor
  case z => cases hz : g.rotAZ <;> simp [rotAFlags, hz]
  all_goals simp

/-- A form leaves the flags that its group does not write. -/
theorem execForm_flags {f : Form} {s t : State} (h : execForm f s = .next t) :
    (flagsWritten s.cfg f).SameOutside s.f t.f := by
  cases f
  case aluR | aluHl | aluN | addSpE | ldHlSpE | rotR | rotHl => exact .all _ _
  case rlca | rrca | rla | rra =>
    cases h
    exact rotAFlags_sameOutside _ _ _ _
  case incR | incHl | decR | decHl | bitR | bitHl | addHl | scf | ccf | daa | cpl =>
    cases h
    constructor <;> simp [flagsWritten, incFlags, decFlags, bitFlags, addHlFlags, daaFlags]
  case pop q =>
    cases h
    cases q
    case af => exact .all _ _
    all_goals exact .of_eq rfl
  case jpCc | jrCc | callCc | retCc =>
    obtain rfl | rfl := eq_or_eq_of_ite_next h <;> exact .of_eq (by simp)
  all_goals
    cases h
    exact .of_eq (by simp [State.setAtHl])

/-- Settles O26: each instruction has the meaning of its form. -/
theorem flagFrame : Obligations.FlagFrame := by
  unfold Obligations.FlagFrame
  intro i s t h
  rw [exec_eq_execForm] at h
  obtain ⟨z, n, half, c⟩ := execForm_flags h
  exact ⟨z, n, half, c⟩

end Sys2Proof.Machine
end

section
/-! SUPPORT. What the PPU reads of a line without the optional composition (O51). -/

namespace Sys2Proof.Machine

/-- Tile data stands in 0x8000..0x97FF (R452). -/
theorem tileBase_add_le (lcdc t : Byte) : tileBase lcdc t + 16 ≤ 0x9800 := by
  have := t.isLt
  unfold tileBase
  split_ifs <;> omega

theorem mapBase_le (second : Bool) : mapBase second ≤ 0x9C00 := by
  cases second <;> simp [mapBase]

/-- The two states look alike to a PPU without `COMPOSE_OBJ_WIN`: one set of parameters, the same bytes but for LCDC,
OBP0, OBP1, WY and WX, and of LCDC the bits 2, 3, 4 and 7 (R38, R44, R456). -/
structure SameForPlainPpu (s u : State) : Prop where
  cfg : s.cfg = u.cfg
  bytes : ∀ x : Word, x ∉ ([0xFF40, 0xFF48, 0xFF49, 0xFF4A, 0xFF4B] : List Word) → s.rawRead x = u.rawRead x
  lcdcBits : ∀ k ∈ [2, 3, 4, 7], s.lcdc.getLsbD k = u.lcdc.getLsbD k

section
variable {s u : State} (h : SameForPlainPpu s u)
include h

/-- Every byte below the I/O registers of the PPU is the same. -/
theorem SameForPlainPpu.rawAt {a : Nat} (ha : a < 0xFF40) : s.rawAt a = u.rawAt a := by
  have hnat : (BitVec.ofNat 16 a).toNat = a := by
    rw [BitVec.toNat_ofNat]
    omega
  have hbyte := h.bytes (BitVec.ofNat 16 a) (by
    simp only [List.mem_cons, List.not_mem_nil, or_false, ← BitVec.toNat_inj, hnat]
    simp
    omega)
  unfold State.rawRead at hbyte
  rwa [hnat] at hbyte

/-! ### Sprites -/

theorem SameForPlainPpu.oamEntry {i : Nat} (hi : i < 40) : s.oamEntry i = u.oamEntry i := by
  unfold State.oamEntry
  rw [h.rawAt (by omega), h.rawAt (by omega), h.rawAt (by omega), h.rawAt (by omega)]

theorem SameForPlainPpu.scanEntries (line height : Nat) {entries : List Nat} (hall : ∀ i ∈ entries, i < 40)
    (room : Nat) : scanEntries s line height entries room = scanEntries u line height entries room := by
  induction entries generalizing room with
  | nil => rfl
  | cons i rest ih =>
    obtain ⟨hi, hrest⟩ := List.forall_mem_cons.mp hall
    cases room with
    | zero => rfl
    | succ room =>
      unfold Machine.scanEntries
      rw [h.oamEntry hi, ih hrest, ih hrest]

theorem SameForPlainPpu.spriteHeight : spriteHeight s.lcdc = spriteHeight u.lcdc := by
  unfold Machine.spriteHeight
  rw [h.lcdcBits 2 (by simp)]

theorem SameForPlainPpu.spriteScan : s.spriteScan = u.spriteScan := by
  unfold State.spriteScan
  rw [h.bytes 0xFF44 (by decide), h.cfg, h.spriteHeight]
  exact h.scanEntries _ _ (fun i hi => List.mem_range.mp hi) _

/-! ### Background -/

theorem SameForPlainPpu.tileBase (t : Byte) : tileBase s.lcdc t = tileBase u.lcdc t := by
  unfold Machine.tileBase
  rw [h.lcdcBits 4 (by simp)]

theorem SameForPlainPpu.mapIndex (second : Bool) {px py : Nat} (hx : px < 256) (hy : py < 256) :
    s.mapIndex (mapBase second) px py = u.mapIndex (mapBase second) px py := by
  have hmap := mapBase_le second
  have htile := tileBase_add_le u.lcdc (u.rawAt (mapBase second + 32 * (py / 8) + px / 8))
  simp only [State.mapIndex]
  rw [h.rawAt (a := mapBase second + 32 * (py / 8) + px / 8) (by omega), h.tileBase, h.rawAt (by omega),
    h.rawAt (by omega)]

theorem SameForPlainPpu.bgShade (x : Nat) : s.bgShade x = u.bgShade x := by
  unfold State.bgShade State.bgIndex
  rw [h.bytes 0xFF47 (by decide), h.bytes 0xFF43 (by decide), h.bytes 0xFF42 (by decide),
    h.bytes 0xFF44 (by decide), h.lcdcBits 3 (by simp),
    h.mapIndex _ (Nat.mod_lt _ (by omega)) (Nat.mod_lt _ (by omega))]

/-- Without the composition a row is the background alone (R456). -/
theorem SameForPlainPpu.scanRow (hplain : s.cfg.composeObjWin = false) (sprites : List Sprite) :
    s.scanRow sprites = u.scanRow sprites := by
  unfold State.scanRow
  refine List.map_congr_left fun x _ => ?_
  rw [← h.cfg, hplain]
  exact h.bgShade x

theorem SameForPlainPpu.drawnLine (hplain : s.cfg.composeObjWin = false) : s.drawnLine = u.drawnLine := by
  unfold State.drawnLine
  rw [h.lcdcBits 7 (by simp), h.spriteScan, h.scanRow hplain]

end

/-- Settles O51: the sprite scan and the background row read nothing that the two states differ in. -/
theorem unusedVideoRegisters : Obligations.UnusedVideoRegisters := by
  unfold Obligations.UnusedVideoRegisters
  intro s u hcfg hplain hbytes hbits
  have same : SameForPlainPpu s u := ⟨hcfg, hbytes, hbits⟩
  exact same.drawnLine hplain

end Sys2Proof.Machine
end

section
/-! SUPPORT. The echo RAM (O57): the two addresses of a pair are written together or not at all. -/

namespace Sys2Proof.Machine

/-- Only a write into the pair itself touches an address of the work RAM, and then it touches the echo too (R65). -/
theorem echo_mem_touched_iff {x : Word} (hlo : 0xC000 ≤ x.toNat) (hhi : x.toNat ≤ 0xDDFF) (y : Word) :
    x + 0x2000 ∈ touched y ↔ x ∈ touched y := by
  unfold touched
  split_ifs with work echo ly <;> simp only [List.mem_cons, List.not_mem_nil, or_false]
  all_goals bv_omega

theorem State.echoed_memWrite {s : State} (y : Word) (v : Byte) (h : s.echoed) : (s.memWrite y v).echoed := by
  intro x hlo hhi
  simp only [State.rawRead_memWrite, echo_mem_touched_iff hlo hhi, h x hlo hhi]

/-- The echo is a matter of the bytes of 0xC000..0xFDFF alone. -/
theorem State.echoed_of_rawRead_eq {s t : State} (h : s.echoed)
    (heq : ∀ x : Word, 0xC000 ≤ x.toNat → x.toNat ≤ 0xFDFF → t.rawRead x = s.rawRead x) : t.echoed := by
  intro x hlo hhi
  have hecho : (x + 0x2000).toNat = x.toNat + 0x2000 := by bv_omega
  calc t.rawRead (x + 0x2000)
    _ = s.rawRead (x + 0x2000) := heq _ (by omega) (by omega)
    _ = s.rawRead x := h x hlo hhi
    _ = t.rawRead x := (heq x hlo (by omega)).symm

/-- A raw write above the echo RAM keeps the echo. -/
theorem State.echoed_rawWrite {s : State} {y : Word} (hy : 0xFE00 ≤ y.toNat) (v : Byte) (h : s.echoed) :
    (s.rawWrite y v).echoed := by
  refine State.echoed_of_rawRead_eq h fun x _ hx => ?_
  rw [State.rawRead_rawWrite, if_neg]
  rintro rfl
  omega

theorem busInvariant_echoed : BusInvariant State.echoed where
  congr hbus h := State.echoed_of_rawRead_eq h fun x _ _ => State.rawRead_congr (State.mem_eq_of_bus hbus) x
  memWrite := State.echoed_memWrite
  acknowledge := State.echoed_rawWrite (by decide)

/-- A tick writes OAM and I/O registers alone (R430), all above the echo RAM. -/
theorem State.echoed_tick {s : State} (n : Nat) (h : s.echoed) : (s.tick n).echoed := by
  refine State.echoed_of_rawRead_eq h fun x _ hx => s.rawRead_tick_of_ne n x (by omega) ?_ ?_ ?_
  all_goals
    rintro rfl
    exact absurd hx (by decide)

/-- Drawing a line writes I/O registers alone (R459). -/
theorem State.echoed_afterDraw {s : State} (h : s.echoed) : s.afterDraw.echoed := by
  refine State.echoed_of_rawRead_eq h fun x _ hx => s.rawRead_afterDraw_of_ne x ?_ ?_
  all_goals
    rintro rfl
    exact absurd hx (by decide)

/-- Settles O57: a CPU write stores to both addresses of a pair, and the other agents write above the echo RAM. -/
theorem stepKeepsEcho : Obligations.StepKeepsEcho := by
  unfold Obligations.StepKeepsEcho
  intro s t hs h
  obtain ⟨-, ⟨-, rfl⟩ | ⟨-, u, hu, rfl⟩ | ⟨-, rfl⟩ | ⟨-, rfl⟩⟩ := step_cases h
  · exact State.echoed_rawWrite (y := 0xFF44) (by decide) _ hs
  · exact busInvariant_echoed.congr u.bus_afterCpu (busInvariant_echoed.cpuStep hu hs)
  · exact State.echoed_tick _ hs
  · exact State.echoed_afterDraw hs

end Sys2Proof.Machine
end

section
/-! SUPPORT. The CPU write (O23): the fields it changes besides memory, and the bytes it touches at each address. -/

namespace Sys2Proof.Machine

/-- Besides memory a CPU write changes div at DIV, the controller at DMA, the serial output at SC (R66, R68, R69). -/
theorem State.memWrite_eq (s : State) (a : Word) (v : Byte) :
    s.memWrite a v =
      { s with
        mem := (s.memWrite a v).mem
        div := if a = 0xFF04 then 0x0000 else s.div
        dma := if a = 0xFF46 then .active (cat v 0x00) 0 0 else s.dma
        serialOut := if a = 0xFF02 ∧ v = 0x81 then s.serialOut ++ [s.rawRead 0xFF01] else s.serialOut } := by
  rw [← s.div_memWrite a v, ← s.dma_memWrite a v, ← s.serialOut_memWrite a v]
  unfold State.memWrite
  split_ifs <;> rfl

theorem touched_of_work {a : Word} (h : 0xC000 ≤ a.toNat ∧ a.toNat ≤ 0xDDFF) : touched a = [a, a + 0x2000] :=
  if_pos h

theorem touched_of_echo {a : Word} (h : 0xE000 ≤ a.toNat ∧ a.toNat ≤ 0xFDFF) : touched a = [a, a - 0x2000] :=
  (if_neg (by omega)).trans (if_pos h)

theorem touched_of_plain {a : Word} (hwork : ¬ (0xC000 ≤ a.toNat ∧ a.toNat ≤ 0xDDFF))
    (hecho : ¬ (0xE000 ≤ a.toNat ∧ a.toNat ≤ 0xFDFF)) (hly : a ≠ 0xFF44) : touched a = [a] :=
  (if_neg hwork).trans ((if_neg hecho).trans (if_neg hly))

theorem State.memWrite_ly (s : State) (v : Byte) : s.memWrite 0xFF44 v = s := rfl

theorem cat_zero_eq_ofNat (v : Byte) : cat v 0x00 = BitVec.ofNat 16 (v.toNat * 256) := by
  apply BitVec.eq_of_toNat_eq
  have := v.isLt
  simp [cat_toNat]
  omega

/-- Where no register with a side effect is written, memory alone changes, and the byte itself lands (R65, R71). -/
theorem State.memWrite_noSideEffect (s : State) {a : Word} {v : Byte} (hsc : ¬ (a = 0xFF02 ∧ v = 0x81))
    (hdiv : a ≠ 0xFF04) (hdma : a ≠ 0xFF46) :
    s.memWrite a v = { s with mem := (s.memWrite a v).mem } ∧
      ∀ x, (s.memWrite a v).rawRead x = if x ∈ touched a then v else s.rawRead x := by
  constructor
  · refine (s.memWrite_eq a v).trans ?_
    rw [if_neg hsc, if_neg hdiv, if_neg hdma]
  · intro x
    rw [State.rawRead_memWrite, landed, if_neg hsc, if_neg hdiv]

/-- No register with a side effect is in the echo RAM or below it. -/
theorem State.memWrite_upToEcho (s : State) {a : Word} (ha : a.toNat ≤ 0xFDFF) (v : Byte) :
    s.memWrite a v = { s with mem := (s.memWrite a v).mem } ∧
      ∀ x, (s.memWrite a v).rawRead x = if x ∈ touched a then v else s.rawRead x := by
  have ne_of_above : ∀ b : Word, 0xFDFF < b.toNat → a ≠ b := by
    rintro b hb rfl
    omega
  exact s.memWrite_noSideEffect (fun h => ne_of_above 0xFF02 (by decide) h.1) (ne_of_above 0xFF04 (by decide))
    (ne_of_above 0xFF46 (by decide))

/-- Settles O23: the fields by `memWrite_eq`, and each byte by the addresses touched and the byte that lands. -/
theorem cpuWriteDispatch : Obligations.CpuWriteDispatch := by
  unfold Obligations.CpuWriteDispatch
  intro s a v
  refine ⟨fun hwork => ?_, fun hecho => ?_, ?_, ?_, ?_, ?_, fun hwork hecho hsc hdiv hly hdma => ?_⟩
  · obtain ⟨frame, reads⟩ := s.memWrite_upToEcho (a := a) (by omega) v
    exact ⟨frame, fun x => by simp [reads, touched_of_work hwork]⟩
  · obtain ⟨frame, reads⟩ := s.memWrite_upToEcho (a := a) (by omega) v
    exact ⟨frame, fun x => by simp [reads, touched_of_echo hecho]⟩
  · rintro ⟨rfl, rfl⟩
    exact ⟨s.memWrite_eq 0xFF02 0x81, fun x => by simp [State.rawRead_memWrite, touched, landed]⟩
  · rintro rfl
    exact ⟨s.memWrite_eq 0xFF04 v, fun x => by simp [State.rawRead_memWrite, touched, landed]⟩
  · rintro rfl
    exact s.memWrite_ly v
  · rintro rfl
    rw [← cat_zero_eq_ofNat]
    exact ⟨s.memWrite_eq 0xFF46 v, fun x => by simp [State.rawRead_memWrite, touched, landed]⟩
  · obtain ⟨frame, reads⟩ := s.memWrite_noSideEffect hsc hdiv hdma
    exact ⟨frame, fun x => by simp [reads, touched_of_plain hwork hecho hly]⟩

end Sys2Proof.Machine
end

section
/-! SUPPORT. The memory frame (O27): the CPU writes of an instruction leave every byte that none of them touches. -/

namespace Sys2Proof.Machine

theorem State.rawRead_stores_of_notMem (s : State) {ws : List (Word × Byte)} {x : Word}
    (h : ∀ a ∈ ws.map Prod.fst, x ∉ touched a) : (s.stores ws).rawRead x = s.rawRead x := by
  induction ws generalizing s with
  | nil => rfl
  | cons w ws ih =>
    rw [List.map_cons, List.forall_mem_cons] at h
    obtain ⟨hw, hws⟩ := h
    exact (ih _ hws).trans (s.rawRead_memWrite_of_notMem _ _ _ hw)

theorem State.StoresTo.mem_eq_of_nil {s t : State} (h : s.StoresTo [] t) : t.mem = s.mem := by
  obtain ⟨ws, hws, hbus⟩ := h
  obtain rfl := List.map_eq_nil_iff.mp hws
  exact State.mem_eq_of_bus hbus

theorem State.StoresTo.rawRead_of_notMem {s t : State} {xs : List Word} (h : s.StoresTo xs t) {x : Word}
    (hx : ∀ a ∈ xs, x ∉ touched a) : t.rawRead x = s.rawRead x := by
  obtain ⟨ws, rfl, hbus⟩ := h
  exact (State.rawRead_congr (State.mem_eq_of_bus hbus) x).trans (s.rawRead_stores_of_notMem hx)

/-- Settles O27: each instruction has the meaning of its form, which makes the CPU writes that `storeAddresses`
lists and no other. -/
theorem memoryFrame : Obligations.MemoryFrame := by
  unfold Obligations.MemoryFrame
  intro i s t h
  rw [exec_eq_execForm] at h
  have stores := execForm_storesTo h
  exact ⟨fun hnone => (hnone ▸ stores).mem_eq_of_nil, fun _ hx => stores.rawRead_of_notMem hx⟩

end Sys2Proof.Machine
end

section
/-! SUPPORT. Construction (O54) and the reset state (O59): the bytes of a loaded image. -/

namespace Sys2Proof.Machine

/-- After bytes are loaded from address `a` on, a cell reads the byte loaded there, if any. -/
theorem read_loadBytes (a j : Nat) (bytes : List Byte) (m : Memory) :
    Memory.read (loadBytes a bytes m) j =
      if a ≤ j then bytes.getD (j - a) (Memory.read m j) else Memory.read m j := by
  induction bytes generalizing a m with
  | nil => simp [loadBytes]
  | cons v rest ih =>
    rw [loadBytes, ih, Memory.read_write]
    obtain hlt | rfl | hgt := Nat.lt_trichotomy j a
    · simp [show ¬ a + 1 ≤ j by omega, show ¬ a ≤ j by omega, show j ≠ a by omega]
    · simp
    · simp [show a + 1 ≤ j by omega, show a ≤ j by omega, show j ≠ a by omega,
        show j - a = (j - (a + 1)) + 1 by omega]

/-- Construction fills memory with the boot image, then the rest of the cartridge image, then zeros (R61, R504). -/
theorem read_constructedMemory (g : Config) (image : List Byte) (j : Nat) :
    Memory.read (constructedMemory g image) j =
      (g.bootImage.getD [] ++ image.drop (g.bootImage.getD []).length).getD j 0x00 := by
  generalize hboot : g.bootImage.getD [] = boot
  have himage : Memory.read (constructedMemory g image) j = boot.getD j (image.getD j 0x00) := by
    simp only [constructedMemory, hboot, read_loadBytes, Nat.zero_le, if_true, Nat.sub_zero, Memory.read]
  rw [himage]
  obtain hlt | hle := Nat.lt_or_ge j boot.length
  · rw [List.getD_append _ _ _ _ hlt, List.getD_eq_getElem _ _ hlt, List.getD_eq_getElem _ _ hlt]
  · rw [List.getD_append_right _ _ _ _ hle, List.getD_eq_default _ _ hle]
    simp [List.getD_eq_getElem?_getD, Nat.add_sub_cancel' hle]

/-- Settles O54: the registers are those of reset, and memory is that of the two images. -/
theorem construction : Obligations.Construction := by
  unfold Obligations.Construction
  intro g image _
  constructor
  · intro hlong
    refine ⟨if_neg ?_, rfl⟩
    simp [imageWellFormed, hlong]
  · intro hfits
    refine ⟨_, if_pos (decide_eq_true hfits), ?_⟩
    exact ⟨rfl, rfl, rfl, rfl, rfl, rfl, rfl, rfl, rfl, rfl, rfl, rfl, rfl, rfl, rfl, rfl, rfl, rfl, rfl,
      fun x => read_constructedMemory g image x.toNat⟩

theorem State.rawRead_reset (x : Word) : State.reset.rawRead x = 0x00 := rfl

/-- Settles O59: every byte of the reset state is 0x00, and div is 0. -/
theorem resetHasInvariants : Obligations.ResetHasInvariants := by
  unfold Obligations.ResetHasInvariants
  refine ⟨by decide, ?_, ?_⟩
  · intro x _ _
    rw [State.rawRead_reset, State.rawRead_reset]
  · exact State.rawRead_reset 0xFF04

end Sys2Proof.Machine
end

section
/-! SUPPORT. Encoding and decoding (O1 to O5): the decoder reads back what the encoder wrote, and the encoder writes
back what the decoder read. -/

namespace Sys2Proof

open Sys2Proof.Machine

/-! ### Decoding an encoded instruction -/

/-- An operand word is read as it was written, low byte first (R109). -/
theorem decode_eq_ok_of_wordOperand {bytes rest : List Byte} (f : Word → Instr) (nn : Word)
    (h : decode bytes = .ok (f (cat (hi8 nn) (lo8 nn))) rest) : decode bytes = .ok (f nn) rest := by
  rwa [cat_hi8_lo8] at h

/-- With its first byte known, the decoder evaluates on every encoding; only a word operand is put together again. -/
theorem decode_encode_append (i : Instr) (rest : List Byte) : decode (encode i ++ rest) = .ok i rest := by
  cases i
  case ld_BC_nn nn | ld_DE_nn nn | ld_HL_nn nn | ld_SP_nn nn | ld_AtNN_SP nn | ld_AtNN_A nn | ld_A_AtNN nn
    | jp_nn nn | jp_NZ_nn nn | jp_Z_nn nn | jp_NC_nn nn | jp_C_nn nn
    | call_nn nn | call_NZ_nn nn | call_Z_nn nn | call_NC_nn nn | call_C_nn nn =>
    exact decode_eq_ok_of_wordOperand _ nn rfl
  all_goals rfl

/-- Settles O1: the decoder's answer on the encoding of each of the 511 rows. -/
theorem decodeOfEncode : Obligations.DecodeOfEncode := by
  unfold Obligations.DecodeOfEncode
  exact fun i rest _ => decode_encode_append i rest

/-! ### Encoding a decoded instruction -/

theorem encode_decodeBytes_CB (b1 b2 : Byte) : encode (decodeBytes 0xCB b1 b2) = [0xCB, b1] := by
  have table : ∀ op2 : Byte, encode (cbInstr op2) = [0xCB, op2] := by decide
  exact table b1

theorem encode_decodeBytes_of_opLength_one {op : Byte} (h : opLength op = 1) (b1 b2 : Byte) :
    encode (decodeBytes op b1 b2) = [op] := by
  have table : ∀ op : Byte, opLength op = 1 → encode (decodeBytes op 0 0) = [op] := by decide
  rw [decodeBytes_of_opLength_one h, table op h]

theorem encode_decodeBytes_of_mem_twoByteOpcodes {op : Byte} (h : op ∈ twoByteOpcodes) (b1 b2 : Byte) :
    encode (decodeBytes op b1 b2) = [op, b1] := by
  obtain rfl | h := List.mem_cons.mp h
  · exact encode_decodeBytes_CB b1 b2
  · fin_cases h <;> rfl

theorem encode_decodeBytes_of_mem_threeByteOpcodes {op : Byte} (h : op ∈ threeByteOpcodes) (b1 b2 : Byte) :
    encode (decodeBytes op b1 b2) = [op, b1, b2] := by
  have written : encode (decodeBytes op b1 b2) = [op, lo8 (cat b2 b1), hi8 (cat b2 b1)] := by
    fin_cases h <;> rfl
  rw [written, lo8_cat, hi8_cat]

/-- The encoder writes the bytes that the instruction was read from: one case for each length (R101). -/
theorem encode_decodeBytes (op b1 b2 : Byte) :
    encode (decodeBytes op b1 b2) = [op, b1, b2].take (opLength op) := by
  by_cases htwo : op ∈ twoByteOpcodes
  · have hlen : opLength op = 2 := if_pos htwo
    rw [encode_decodeBytes_of_mem_twoByteOpcodes htwo, hlen]
    rfl
  · by_cases hthree : op ∈ threeByteOpcodes
    · have hlen : opLength op = 3 := (if_neg htwo).trans (if_pos hthree)
      rw [encode_decodeBytes_of_mem_threeByteOpcodes hthree, hlen]
      rfl
    · have hlen : opLength op = 1 := (if_neg htwo).trans (if_neg hthree)
      rw [encode_decodeBytes_of_opLength_one hlen, hlen]
      rfl

/-- The decoder accepts the bytes of an instruction and then the rest, and nothing else. -/
theorem exists_of_decode_eq_ok {bytes rest : List Byte} {i : Instr} (h : decode bytes = .ok i rest) :
    ∃ op b1 b2, i = decodeBytes op b1 b2 ∧ bytes = [op, b1, b2].take (opLength op) ++ rest := by
  unfold decode at h
  split at h
  case h_1 => cases h
  case h_2 op tail =>
    split at h <;> cases h
    case h_1 hlen => exact ⟨op, 0, 0, rfl, by simp [hlen]⟩
    case h_2 b1 hlen => exact ⟨op, b1, 0, rfl, by simp [hlen]⟩
    case h_3 b1 b2 hlen => exact ⟨op, b1, b2, rfl, by simp [hlen]⟩

theorem encode_append_of_decode {bytes rest : List Byte} {i : Instr} (h : decode bytes = .ok i rest) :
    encode i ++ rest = bytes := by
  obtain ⟨op, b1, b2, rfl, rfl⟩ := exists_of_decode_eq_ok h
  rw [encode_decodeBytes]

/-- Settles O2: the accepted bytes are those the instruction was read from, and the encoder writes these. -/
theorem encodeOfDecode : Obligations.EncodeOfDecode := by
  unfold Obligations.EncodeOfDecode
  exact fun _ _ _ h => encode_append_of_decode h

/-! ### The first byte of at least three -/

/-- The decoder reads a beginning of the list, whatever bytes come after it. -/
theorem decode_append {bytes tail : List Byte} {i : Instr} (h : decode bytes = .ok i tail) (rest : List Byte) :
    decode (bytes ++ rest) = .ok i (tail ++ rest) := by
  rw [← encode_append_of_decode h, List.append_assoc]
  exact decode_encode_append i (tail ++ rest)

theorem decode_cons_cons_cons (op b1 b2 : Byte) (rest : List Byte) :
    decode (op :: b1 :: b2 :: rest) =
      .ok (decodeBytes op b1 b2) ((op :: b1 :: b2 :: rest).drop (opLength op)) := by
  rcases opLength_cases op with h | h | h <;> simpa [h] using decode_append (decode_threeBytes op b1 b2) rest

/-- Settles O3: the statement's lists are those of `opLength`, with 0xCB among the bytes of length 2. -/
theorem firstByteFixesLength : Obligations.FirstByteFixesLength := by
  unfold Obligations.FirstByteFixesLength
  intro b0 b1 b2 rest length
  have hlength : length = opLength b0 := by
    simp only [length, ← ite_or, ← List.mem_cons]
    rfl
  rw [hlength]
  exact ⟨_, decode_cons_cons_cons b0 b1 b2 rest, decodeBytes_length b0 b1 b2⟩

/-! ### Unassigned first bytes -/

theorem form_decodeBytes_of_mem_unassigned {op : Byte} (h : op ∈ unassigned) (b1 b2 : Byte) :
    (decodeBytes op b1 b2).form = .unsupported op := by
  fin_cases h <;> rfl

theorem mem_unassigned_of_form {i : Instr} {b : Byte} (h : i.form = .unsupported b) : b ∈ unassigned := by
  cases i
  case unsupportedD3 | unsupportedDB | unsupportedDD | unsupportedE3 | unsupportedE4 | unsupportedEB
    | unsupportedEC | unsupportedED | unsupportedF4 | unsupportedFC | unsupportedFD =>
    cases h
    decide
  all_goals cases h

theorem encode_of_form_unsupported {i : Instr} {b : Byte} (h : i.form = .unsupported b) : encode i = [b] := by
  rw [encode, h]
  rfl

theorem exists_encode_decodeBytes_eq_cons (op b1 b2 : Byte) :
    ∃ operands, encode (decodeBytes op b1 b2) = op :: operands := by
  rw [encode_decodeBytes]
  rcases opLength_cases op with h | h | h <;> exact ⟨_, by rw [h]; rfl⟩

/-- An assigned first byte begins no unsupported row, whose one byte would be that first byte. -/
theorem form_decodeBytes_ne_unsupported {op : Byte} (h : op ∉ unassigned) (b1 b2 b : Byte) :
    (decodeBytes op b1 b2).form ≠ .unsupported b := by
  intro hform
  obtain ⟨operands, hcons⟩ := exists_encode_decodeBytes_eq_cons op b1 b2
  have hb : b = op := (List.cons.inj ((encode_of_form_unsupported hform).symm.trans hcons)).1
  exact h (hb ▸ mem_unassigned_of_form hform)

/-- Settles O4: the three branches are the rows of `unassigned`, of the CB map and of the primary map. -/
theorem decoderIsTotal : Obligations.DecoderIsTotal := by
  unfold Obligations.DecoderIsTotal
  intro b0 b1 b2 rest
  refine ⟨_, _, decode_cons_cons_cons b0 b1 b2 rest, ?_⟩
  split_ifs with hun hcb
  · have hform := form_decodeBytes_of_mem_unassigned hun b1 b2
    exact ⟨hform, encode_of_form_unsupported hform⟩
  · subst hcb
    exact ⟨encode_decodeBytes_CB b1 b2, form_decodeBytes_ne_unsupported hun b1 b2⟩
  · exact ⟨exists_encode_decodeBytes_eq_cons b0 b1 b2, form_decodeBytes_ne_unsupported hun b1 b2⟩

/-- Settles O5: the decoder evaluates on fixed words. -/
theorem sampleWordsDecode : Obligations.SampleWordsDecode := by
  unfold Obligations.SampleWordsDecode
  exact ⟨rfl, rfl, rfl, rfl, rfl, rfl, rfl, rfl, rfl, rfl, rfl⟩

end Sys2Proof
end

section
/-! SUPPORT. The 8-bit loads (O6, O7). A load's clause is the encoding line and the meaning of its form, word for
word, except that the stores that step HL adjust HL first and write after it (R24). -/

namespace Sys2Proof.Machine

/-- What is said of a form holds of every instruction of that form. -/
theorem encode_exec_of_form {i : Instr} {f : Form} (h : i.form = f) :
    encode i = f.encode ∧ ∀ s, exec i s = execForm f s :=
  h ▸ ⟨rfl, exec_eq_execForm i⟩

/-- A CPU write neither reads nor changes HL, so HL may be set before it or after it. -/
theorem State.memWrite_setHl (s : State) (w x : Word) (v : Byte) :
    (s.setHl w).memWrite x v = (s.memWrite x v).setHl w := by
  unfold State.memWrite
  split_ifs <;> rfl

/-- A store that steps HL writes A at the old HL and leaves the adjusted one (R158, R159). -/
theorem storeAdjusting_setHl (s : State) (w : Word) :
    storeAdjusting (s.setHl w) s = .next (((s.memWrite s.hl s.a).setHl w).returns 8) := by
  rw [storeAdjusting, State.memWrite_setHl]

/-- Settles O6: each clause is what its form encodes to and does. -/
theorem loadsOfRegisters : Obligations.LoadsOfRegisters := by
  unfold Obligations.LoadsOfRegisters
  exact ⟨fun _ _ _ ldRR => encode_exec_of_form ldRR,
    fun _ _ _ ldRN => encode_exec_of_form ldRN,
    fun _ _ ldRHl => encode_exec_of_form ldRHl,
    fun _ ldABc => encode_exec_of_form ldABc,
    fun _ ldADe => encode_exec_of_form ldADe,
    fun _ _ ldANn => encode_exec_of_form ldANn,
    fun _ _ ldhAN => encode_exec_of_form ldhAN,
    fun _ ldAC => encode_exec_of_form ldAC⟩

/-- Settles O7: each clause is what its form encodes to and does; the stores that step HL, by
`storeAdjusting_setHl`. -/
theorem storesAndHlStepping : Obligations.StoresAndHlStepping := by
  unfold Obligations.StoresAndHlStepping
  exact ⟨fun _ _ ldHlR => encode_exec_of_form ldHlR,
    fun _ _ ldHlN => encode_exec_of_form ldHlN,
    fun _ ldBcA => encode_exec_of_form ldBcA,
    fun _ ldDeA => encode_exec_of_form ldDeA,
    fun _ _ ldNnA => encode_exec_of_form ldNnA,
    fun _ _ ldhNA => encode_exec_of_form ldhNA,
    fun _ ldCA => encode_exec_of_form ldCA,
    fun _ ldHliA => (encode_exec_of_form ldHliA).imp_right
      fun hexec s => (hexec s).trans (storeAdjusting_setHl s (s.hl + 1)),
    fun _ ldHldA => (encode_exec_of_form ldHldA).imp_right
      fun hexec s => (hexec s).trans (storeAdjusting_setHl s (s.hl - 1)),
    fun _ ldAHli => encode_exec_of_form ldAHli,
    fun _ ldAHld => encode_exec_of_form ldAHld⟩

end Sys2Proof.Machine
end

section
/-! SUPPORT. The 16-bit arithmetic (O14): the model's sums and carries as numbers, with the low bits of a word as the
statement writes them, by a mask. -/

namespace Sys2Proof.Machine

/-- A mask of the low `k` bits leaves the remainder modulo `2 ^ k`. -/
theorem toNat_and_mask {w : Nat} (k : Nat) (v : BitVec w) {mask : BitVec w} (hmask : mask.toNat = 2 ^ k - 1) :
    (v &&& mask).toNat = v.toNat % 2 ^ k := by
  rw [BitVec.toNat_and, hmask, Nat.and_two_pow_sub_one_eq_mod]

/-! ### ADD HL,rr -/

theorem add_eq_ofNat_mod (x y : Word) : x + y = BitVec.ofNat 16 ((x.toNat + y.toNat) % 65536) := by
  apply BitVec.eq_of_toNat_eq
  simp [BitVec.toNat_add]

/-- H is the carry out of bit 11, C the carry out of bit 15 (R240). -/
theorem addHlFlags_eq (x y : Word) (f : Flags) :
    addHlFlags x y f = {
      z := f.z
      n := false
      h := decide ((x &&& 0x0FFF).toNat + (y &&& 0x0FFF).toNat ≥ 0x1000)
      c := decide (x.toNat + y.toNat ≥ 0x10000) } := by
  rw [toNat_and_mask 12 x rfl, toNat_and_mask 12 y rfl]
  rfl

/-! ### SP plus a signed byte -/

theorem toInt_byte (e : Byte) : e.toInt = if e.toNat < 128 then (e.toNat : Int) else (e.toNat : Int) - 256 := by
  rw [BitVec.toInt_eq_toNat_cond]
  split_ifs <;> omega

theorem ofInt_emod_65536 (i : Int) : BitVec.ofInt 16 (i % 65536) = BitVec.ofInt 16 i := by
  apply BitVec.eq_of_toInt_eq
  rw [BitVec.toInt_ofInt, BitVec.toInt_ofInt]
  exact Int.emod_bmod i (2 ^ 16)

/-- The signed sum, taken modulo 2^16 (R243). -/
theorem spPlusE_eq_ofInt (sp : Word) (e : Byte) :
    spPlusE sp e =
      BitVec.ofInt 16 ((sp.toNat + if e.toNat < 128 then (e.toNat : Int) else (e.toNat : Int) - 256) % 65536) := by
  rw [← toInt_byte, ofInt_emod_65536, BitVec.ofInt_add, BitVec.ofInt_natCast, BitVec.ofNat_toNat, BitVec.setWidth_eq]
  rfl

/-- H and C are the carries of the unsigned low-byte addition (R243). -/
theorem spPlusEFlags_eq (sp : Word) (e : Byte) :
    spPlusEFlags sp e = {
      z := false
      n := false
      h := decide ((sp &&& 0x000F).toNat + (e &&& 0x0F).toNat ≥ 0x10)
      c := decide ((sp &&& 0x00FF).toNat + e.toNat ≥ 0x100) } := by
  rw [toNat_and_mask 4 sp rfl, toNat_and_mask 4 e rfl, toNat_and_mask 8 sp rfl]
  rfl

/-- Settles O14: each clause is what its form encodes to and does, with the sums and the flags as numbers. -/
theorem wordArithmetic : Obligations.WordArithmetic := by
  unfold Obligations.WordArithmetic
  intro signed spPlus spFlags
  have hspPlus : ∀ s e, spPlusE s.sp e = spPlus s e := fun s e => spPlusE_eq_ofInt s.sp e
  have hspFlags : ∀ s e, spPlusEFlags s.sp e = spFlags s e := fun s e => spPlusEFlags_eq s.sp e
  refine ⟨fun _ _ addHl => (encode_exec_of_form addHl).imp_right fun hexec s => ?_,
    fun _ _ incRr => encode_exec_of_form incRr,
    fun _ _ decRr => encode_exec_of_form decRr,
    fun _ _ addSpE => (encode_exec_of_form addSpE).imp_right fun hexec s => ?_,
    fun _ _ ldHlSpE => (encode_exec_of_form ldHlSpE).imp_right fun hexec s => ?_⟩
  · intro x y sum
    have hsum : x + y = sum := add_eq_ofNat_mod x y
    rw [hexec, ← hsum, ← addHlFlags_eq x y s.f]
    rfl
  · rw [hexec, ← hspPlus, ← hspFlags]
    rfl
  · rw [hexec, ← hspPlus, ← hspFlags]
    rfl

end Sys2Proof.Machine
end

section
/-! SUPPORT. The 16-bit loads and the stack (O8): PUSH and POP by the bytes of the pair. -/

namespace Sys2Proof.Machine

/-- PUSH writes the high byte, then the low byte, below the old SP (R184). -/
theorem pushPair_eq (q : StackPair) (s : State) :
    pushPair q s = .next (State.returns
      { (s.memWrite (s.sp - 1) (hi8 (s.stackPair q))).memWrite (s.sp - 2) (lo8 (s.stackPair q)) with
        sp := s.sp - 2 } 16) := by
  rw [pushPair, State.push16_eq]

theorem State.hi8_popWord (s : State) : hi8 s.popWord = s.rawRead (s.sp + 1) := hi8_cat _ _

theorem State.lo8_popWord (s : State) : lo8 s.popWord = s.rawRead s.sp := lo8_cat _ _

/-- Settles O8: each clause is what its form encodes to and does; PUSH by `pushPair_eq`, POP by the two bytes of the
popped word, for each pair. -/
theorem wordLoadsAndStack : Obligations.WordLoadsAndStack := by
  unfold Obligations.WordLoadsAndStack
  refine ⟨fun _ _ _ ldRrNn => encode_exec_of_form ldRrNn,
    fun _ _ ldNnSp => encode_exec_of_form ldNnSp,
    fun _ ldSpHl => encode_exec_of_form ldSpHl,
    fun _ q push => (encode_exec_of_form push).imp_right fun hexec s => (hexec s).trans (pushPair_eq q s),
    fun _ q pop => (encode_exec_of_form pop).imp_right fun hexec s => ?_⟩
  intro lo hi
  have high : hi8 s.popWord = hi := s.hi8_popWord
  have low : lo8 s.popWord = lo := s.lo8_popWord
  rw [hexec, ← high, ← low]
  cases q <;> rfl

end Sys2Proof.Machine
end

section
/-! SUPPORT. The 8-bit arithmetic and logic (O9 to O13): the model's results and flags as numbers, with the low nibble
as the statements write it, by a mask. -/

namespace Sys2Proof.Machine

/-- What an ALU operation does to A and an operand byte, it does with each of the three operands: a register, the byte
at HL, an immediate (R202 to R225). -/
theorem encode_exec_of_aluOn (op : AluOp) {result : State → Byte → Nat → State}
    (haluOn : ∀ s v count, aluOn op v count s = .next (result s v count)) :
    (∀ i r, i.form = .aluR op r → encode i = [opByte (0x80 + 8 * op.code + r.code)] ∧
      ∀ s, exec i s = .next (result s (s.reg r) 4)) ∧
    (∀ i, i.form = .aluHl op → encode i = [opByte (0x86 + 8 * op.code)] ∧
      ∀ s, exec i s = .next (result s (s.rawRead s.hl) 8)) ∧
    (∀ i n, i.form = .aluN op n → encode i = [opByte (0xC6 + 8 * op.code), n] ∧
      ∀ s, exec i s = .next (result s n 8)) :=
  ⟨fun _ r aluR => (encode_exec_of_form aluR).imp_right fun hexec s => (hexec s).trans (haluOn s (s.reg r) 4),
    fun _ aluHl => (encode_exec_of_form aluHl).imp_right fun hexec s => (hexec s).trans (haluOn s (s.rawRead s.hl) 8),
    fun _ n aluN => (encode_exec_of_form aluN).imp_right fun hexec s => (hexec s).trans (haluOn s n 8)⟩

/-- The test that the model's Z flags make. -/
theorem beq_zero_eq_decide (v : Byte) : (v == 0) = decide (v.toNat = 0) := by
  rw [beq_eq_decide, decide_eq_decide, ← BitVec.toNat_inj]
  rfl

/-! ### ADD and ADC -/

theorem toNat_add8 (a b : Byte) (cin : Bool) : (add8 a b cin).toNat = (a.toNat + b.toNat + cin.toNat) % 256 :=
  BitVec.toNat_ofNat _ 8

theorem add8_eq_ofNat_mod (a b : Byte) (cin : Bool) :
    add8 a b cin = BitVec.ofNat 8 ((a.toNat + b.toNat + cin.toNat) % 256) := by
  rw [← toNat_add8, BitVec.ofNat_toNat, BitVec.setWidth_eq]

/-- H is the carry out of bit 3, C the carry out of bit 7 (R200). -/
theorem add8Flags_eq (a b : Byte) (cin : Bool) :
    add8Flags a b cin = {
      z := decide ((a.toNat + b.toNat + cin.toNat) % 256 = 0)
      n := false
      h := decide ((a &&& 0x0F).toNat + (b &&& 0x0F).toNat + cin.toNat ≥ 0x10)
      c := decide (a.toNat + b.toNat + cin.toNat ≥ 0x100) } := by
  rw [toNat_and_mask 4 a rfl, toNat_and_mask 4 b rfl, ← toNat_add8, ← beq_zero_eq_decide]
  rfl

/-- Settles O9: `add8` and its flags as numbers, with the carry for ADC alone. -/
theorem addAndAdc : Obligations.AddAndAdc := by
  unfold Obligations.AddAndAdc
  intro result
  have next_eq (s : State) (v : Byte) (cin : Bool) (count : Nat) :
      .next { s with a := add8 s.a v cin, f := add8Flags s.a v cin, cycles := some count } =
        (.next (result s v cin count) : Result) := by
    rw [add8_eq_ofNat_mod, add8Flags_eq]
  obtain ⟨addR, addHl, addN⟩ := encode_exec_of_aluOn .add fun s v => next_eq s v false
  obtain ⟨adcR, adcHl, adcN⟩ := encode_exec_of_aluOn .adc fun s v => next_eq s v s.f.c
  exact ⟨addR, addHl, addN, adcR, adcHl, adcN⟩

/-! ### SUB, SBC and CP -/

theorem toNat_sub8 (a b : Byte) (cin : Bool) :
    ((sub8 a b cin).toNat : Int) = ((a.toNat : Int) - b.toNat - cin.toNat) % 256 := by
  have hcin := cin.toNat_lt
  rw [sub8, BitVec.toNat_sub, BitVec.toNat_sub, BitVec.toNat_ofNat]
  omega

/-- The difference, taken modulo 2^8 (R201). -/
theorem sub8_eq_ofInt (a b : Byte) (cin : Bool) :
    sub8 a b cin = BitVec.ofInt 8 (((a.toNat : Int) - b.toNat - cin.toNat) % 256) := by
  rw [← toNat_sub8, BitVec.ofInt_natCast, BitVec.ofNat_toNat, BitVec.setWidth_eq]

/-- H is the borrow into bit 3, C the borrow into bit 7 (R201). -/
theorem sub8Flags_eq (a b : Byte) (cin : Bool) :
    sub8Flags a b cin = {
      z := decide (((a.toNat : Int) - b.toNat - cin.toNat) % 256 = 0)
      n := true
      h := decide ((a &&& 0x0F).toNat < (b &&& 0x0F).toNat + cin.toNat)
      c := decide (a.toNat < b.toNat + cin.toNat) } := by
  have hz : (sub8 a b cin == 0) = decide (((a.toNat : Int) - b.toNat - cin.toNat) % 256 = 0) := by
    rw [beq_zero_eq_decide, ← toNat_sub8, decide_eq_decide, Int.natCast_eq_zero]
  rw [toNat_and_mask 4 a rfl, toNat_and_mask 4 b rfl, ← hz]
  rfl

/-- Settles O10: `sub8` and its flags as numbers, with the carry for SBC alone; CP writes A back as it was. -/
theorem subSbcAndCp : Obligations.SubSbcAndCp := by
  unfold Obligations.SubSbcAndCp
  intro difference flags result compared
  have hflags (s : State) (v : Byte) (cin : Bool) : sub8Flags s.a v cin = flags s v cin := sub8Flags_eq s.a v cin
  have next_eq (s : State) (v : Byte) (cin : Bool) (count : Nat) :
      .next { s with a := sub8 s.a v cin, f := sub8Flags s.a v cin, cycles := some count } =
        (.next (result s v cin count) : Result) := by
    rw [sub8_eq_ofInt, hflags]
  have compared_eq (s : State) (v : Byte) (count : Nat) :
      .next { s with f := sub8Flags s.a v false, cycles := some count } = (.next (compared s v count) : Result) := by
    rw [hflags]
  obtain ⟨subR, subHl, subN⟩ := encode_exec_of_aluOn .sub fun s v => next_eq s v false
  obtain ⟨sbcR, sbcHl, sbcN⟩ := encode_exec_of_aluOn .sbc fun s v => next_eq s v s.f.c
  obtain ⟨cpR, cpHl, cpN⟩ := encode_exec_of_aluOn .cp compared_eq
  exact ⟨subR, subHl, subN, sbcR, sbcHl, sbcN, cpR, cpHl, cpN⟩

/-! ### AND, XOR and OR -/

/-- Settles O11: the model's result and flags are those of the statement, for each of the three operations. -/
theorem andXorOr : Obligations.AndXorOr := by
  unfold Obligations.AndXorOr
  intro result
  obtain ⟨andR, andHl, andN⟩ := encode_exec_of_aluOn .and
    (result := fun s v => result s (s.a &&& v) true) fun _ _ _ => rfl
  obtain ⟨xorR, xorHl, xorN⟩ := encode_exec_of_aluOn .xor
    (result := fun s v => result s (s.a ^^^ v) false) fun _ _ _ => rfl
  obtain ⟨orR, orHl, orN⟩ := encode_exec_of_aluOn .or
    (result := fun s v => result s (s.a ||| v) false) fun _ _ _ => rfl
  exact ⟨andR, andHl, andN, xorR, xorHl, xorN, orR, orHl, orN⟩

/-! ### INC and DEC -/

theorem add_one_eq_ofNat_mod (v : Byte) : v + 1 = BitVec.ofNat 8 ((v.toNat + 1) % 256) := by
  apply BitVec.eq_of_toNat_eq
  simp [BitVec.toNat_add]

theorem sub_one_eq_ofNat_mod (v : Byte) : v - 1 = BitVec.ofNat 8 ((v.toNat + 255) % 256) := by
  apply BitVec.eq_of_toNat_eq
  simp [BitVec.toNat_sub, Nat.add_comm]

/-- The low nibble as a byte and as a number. -/
theorem decide_toNat_mod_16 (v : Byte) {nibble : Byte} :
    decide (v.toNat % 16 = nibble.toNat) = decide (v &&& 0x0F = nibble) := by
  rw [decide_eq_decide, ← BitVec.toNat_inj, toNat_and_mask 4 v rfl]
  rfl

/-- H is set when the low nibble was 15 (R226). -/
theorem incFlags_eq (v : Byte) (f : Flags) :
    incFlags v f =
      ⟨decide (BitVec.ofNat 8 ((v.toNat + 1) % 256) = 0), false, decide (v &&& 0x0F = 0x0F), f.c⟩ := by
  rw [← decide_toNat_mod_16, ← add_one_eq_ofNat_mod]
  rfl

/-- H is set when the low nibble was 0 (R228). -/
theorem decFlags_eq (v : Byte) (f : Flags) :
    decFlags v f =
      ⟨decide (BitVec.ofNat 8 ((v.toNat + 255) % 256) = 0), true, decide (v &&& 0x0F = 0x00), f.c⟩ := by
  rw [← decide_toNat_mod_16, ← sub_one_eq_ofNat_mod]
  rfl

/-- Settles O12: each clause is what its form encodes to and does, with the result as a number and H by a mask. -/
theorem incAndDec : Obligations.IncAndDec := by
  unfold Obligations.IncAndDec
  intro up down upFlags downFlags
  have hup (v : Byte) : v + 1 = up v := add_one_eq_ofNat_mod v
  have hdown (v : Byte) : v - 1 = down v := sub_one_eq_ofNat_mod v
  have hupFlags (v : Byte) (f : Flags) : incFlags v f = upFlags v f := incFlags_eq v f
  have hdownFlags (v : Byte) (f : Flags) : decFlags v f = downFlags v f := decFlags_eq v f
  refine ⟨fun _ r incR => (encode_exec_of_form incR).imp_right fun hexec s => (hexec s).trans ?_,
    fun _ incHl => (encode_exec_of_form incHl).imp_right fun hexec s => (hexec s).trans ?_,
    fun _ r decR => (encode_exec_of_form decR).imp_right fun hexec s => (hexec s).trans ?_,
    fun _ decHl => (encode_exec_of_form decHl).imp_right fun hexec s => (hexec s).trans ?_⟩
  · rw [← hup, ← hupFlags]
    rfl
  · rw [← hup, ← hupFlags]
    rfl
  · rw [← hdown, ← hdownFlags]
    rfl
  · rw [← hdown, ← hdownFlags]
    rfl

/-! ### DAA, CPL, SCF and CCF -/

/-- The two adjustments of DAA share no bit, so their bitwise or is their sum. -/
theorem toNat_daaAdjustment (high low : Bool) :
    ((if high then 0x60 else 0) ||| (if low then 0x06 else 0) : Byte).toNat =
      (if high then 0x60 else 0) + (if low then 0x06 else 0) := by
  cases high <;> cases low <;> rfl

/-- DAA subtracts the adjustment after a subtraction and adds it after an addition, modulo 2^8 (R230). -/
theorem toNat_daaResult (a : Byte) (f : Flags) :
    (daaResult a f).toNat =
      if f.n then (a.toNat + 256 - ((if daaHigh a f then 0x60 else 0) + (if daaLow a f then 0x06 else 0))) % 256
      else (a.toNat + ((if daaHigh a f then 0x60 else 0) + (if daaLow a f then 0x06 else 0))) % 256 := by
  rw [← toNat_daaAdjustment, daaResult]
  split
  · rw [BitVec.toNat_sub]
    congr 1
    bv_omega
  · rw [BitVec.toNat_add]

/-- After a subtraction there is a high adjustment exactly where C is set, so the carry of DAA is C then (R230). -/
theorem daaHigh_eq_ite (a : Byte) (f : Flags) : daaHigh a f = if f.n then f.c else daaHigh a f := by
  split
  case isTrue hn => simp [daaHigh, hn]
  case isFalse => rfl

theorem not_eq_ofNat_sub (v : Byte) : ~~~v = BitVec.ofNat 8 (255 - v.toNat) := by
  apply BitVec.eq_of_toNat_eq
  rw [BitVec.toNat_not, BitVec.toNat_ofNat]
  omega

/-- Settles O13: each clause is what its form encodes to and does; the result of DAA and the complement as numbers. -/
theorem daaCplScfCcf : Obligations.DaaCplScfCcf := by
  unfold Obligations.DaaCplScfCcf
  refine ⟨fun _ daa => (encode_exec_of_form daa).imp_right fun hexec s => ?_,
    fun _ cpl => (encode_exec_of_form cpl).imp_right fun hexec s => (hexec s).trans ?_,
    fun _ scf => encode_exec_of_form scf,
    fun _ ccf => encode_exec_of_form ccf⟩
  · intro a high low adj res
    have hres : (daaResult s.a s.f).toNat = res := toNat_daaResult s.a s.f
    have hhigh : daaHigh s.a s.f = if s.f.n then s.f.c else high := daaHigh_eq_ite s.a s.f
    rw [hexec, ← hres, ← beq_zero_eq_decide, BitVec.ofNat_toNat, BitVec.setWidth_eq, ← hhigh]
    rfl
  · rw [← not_eq_ofNat_sub]
    rfl

end Sys2Proof.Machine
end

section
/-! SUPPORT. The rotates, shifts and swap, and the operations on one bit (O15 to O17): the model's results as numbers.
The parts that an operation puts together share no set bit, so their bitwise or is their sum. -/

namespace Sys2Proof.Machine

/-! ### Bytes and bits as numbers -/

theorem eq_ofNat_of_toNat_eq {v : Byte} {n : Nat} (h : v.toNat = n) : v = BitVec.ofNat 8 n := by
  rw [← h, BitVec.ofNat_toNat, BitVec.setWidth_eq]

theorem toNat_getLsbD (v : Byte) (k : Nat) : (v.getLsbD k).toNat = v.toNat / 2 ^ k % 2 :=
  Nat.toNat_testBit v.toNat k

theorem getLsbD_zero_eq_decide (v : Byte) : v.getLsbD 0 = decide (v.toNat % 2 = 1) := by
  rw [BitVec.getLsbD, Nat.testBit_eq_decide_div_mod_eq, Nat.pow_zero, Nat.div_one]

theorem toNat_getLsbD_seven (v : Byte) : (v.getLsbD 7).toNat = v.toNat / 128 := by
  rw [toNat_getLsbD]
  omega

theorem getLsbD_seven_eq_decide (v : Byte) : v.getLsbD 7 = decide (v.toNat / 128 = 1) := by
  rw [← toNat_getLsbD_seven]
  cases v.getLsbD 7 <;> rfl

/-! ### Rotates, shifts and swap -/

/-- A byte below `2 ^ k` is or-ed into the low bits of a multiple of `2 ^ k`: it is added. -/
theorem toNat_or_of_toNat_lt {x y : Byte} (k : Nat) {n : Nat} (hx : x.toNat = 2 ^ k * n) (hy : y.toNat < 2 ^ k) :
    (x ||| y).toNat = x.toNat + y.toNat := by
  rw [BitVec.toNat_or, hx, Nat.two_pow_add_eq_or_of_lt hy]

theorem toNat_shiftLeft_one (v : Byte) : (v <<< 1).toNat = 2 * v.toNat % 256 := by
  rw [BitVec.toNat_shiftLeft, Nat.shiftLeft_eq, Nat.mul_comm]

theorem toNat_shiftRight_one (v : Byte) : (v >>> 1).toNat = v.toNat / 2 := by
  rw [BitVec.toNat_ushiftRight, Nat.shiftRight_eq_div_pow]

/-- The bit that comes in at position 0. -/
theorem toNat_shiftLeft_or_bitAt (v : Byte) (bit : Bool) :
    ((v <<< 1) ||| bitAt bit 0).toNat = 2 * v.toNat % 256 + bit.toNat := by
  have hhigh : (v <<< 1).toNat = 2 ^ 1 * (v.toNat % 128) := by
    rw [toNat_shiftLeft_one]
    omega
  have hlow : (bitAt bit 0).toNat = bit.toNat := by
    cases bit <;> rfl
  rw [toNat_or_of_toNat_lt 1 hhigh (hlow ▸ bit.toNat_lt), toNat_shiftLeft_one, hlow]

/-- The bit that comes in at position 7. -/
theorem toNat_shiftRight_or_bitAt (v : Byte) (bit : Bool) :
    ((v >>> 1) ||| bitAt bit 7).toNat = v.toNat / 2 + 128 * bit.toNat := by
  have hhigh : (bitAt bit 7).toNat = 2 ^ 7 * bit.toNat := by
    cases bit <;> rfl
  have hlow : (v >>> 1).toNat < 2 ^ 7 := by
    rw [toNat_shiftRight_one]
    omega
  rw [BitVec.or_comm, toNat_or_of_toNat_lt 7 hhigh hlow, toNat_shiftRight_one, hhigh, Nat.add_comm]
  rfl

/-- SRA brings bit 7 in again. -/
theorem and_0x80_eq_bitAt (v : Byte) : v &&& 0x80 = bitAt (v.getLsbD 7) 7 :=
  BitVec.and_twoPow v 7

theorem toNat_swap (v : Byte) :
    (((v &&& 0x0F) <<< 4) ||| (v >>> 4)).toNat = 16 * (v.toNat % 16) + v.toNat / 16 := by
  have hhigh : ((v &&& 0x0F) <<< 4).toNat = 2 ^ 4 * (v.toNat % 16) := by
    rw [BitVec.toNat_shiftLeft, toNat_and_mask 4 v rfl, Nat.shiftLeft_eq]
    omega
  have hlow : (v >>> 4).toNat = v.toNat / 16 := by
    rw [BitVec.toNat_ushiftRight, Nat.shiftRight_eq_div_pow]
  rw [toNat_or_of_toNat_lt 4 hhigh (by omega), hhigh, hlow]
  rfl

/-- The result of `op` is the number `res`, and the carry that it leaves is `out`. -/
structure RotComputes (op : RotOp) (res : Byte → Bool → Nat) (out : Byte → Bool) : Prop where
  result : ∀ v cin, (rotResult op v cin).toNat = res v cin
  carry : ∀ v, rotCarry op v = out v

theorem rlc_computes : RotComputes .rlc (fun v _ => 2 * v.toNat % 256 + v.toNat / 128)
    (fun v => decide (v.toNat / 128 = 1)) where
  result v _ := by rw [rotResult, toNat_shiftLeft_or_bitAt, toNat_getLsbD_seven]
  carry := getLsbD_seven_eq_decide

theorem rrc_computes : RotComputes .rrc (fun v _ => v.toNat / 2 + 128 * (v.toNat % 2))
    (fun v => decide (v.toNat % 2 = 1)) where
  result v _ := by rw [rotResult, toNat_shiftRight_or_bitAt, toNat_getLsbD, Nat.pow_zero, Nat.div_one]
  carry := getLsbD_zero_eq_decide

theorem rl_computes : RotComputes .rl (fun v cin => 2 * v.toNat % 256 + cin.toNat)
    (fun v => decide (v.toNat / 128 = 1)) where
  result := toNat_shiftLeft_or_bitAt
  carry := getLsbD_seven_eq_decide

theorem rr_computes : RotComputes .rr (fun v cin => v.toNat / 2 + 128 * cin.toNat)
    (fun v => decide (v.toNat % 2 = 1)) where
  result := toNat_shiftRight_or_bitAt
  carry := getLsbD_zero_eq_decide

/-- SLA brings a 0 in at position 0. -/
theorem sla_computes : RotComputes .sla (fun v _ => 2 * v.toNat % 256)
    (fun v => decide (v.toNat / 128 = 1)) where
  result v _ := toNat_shiftLeft_one v
  carry := getLsbD_seven_eq_decide

theorem sra_computes : RotComputes .sra (fun v _ => v.toNat / 2 + 128 * (v.toNat / 128))
    (fun v => decide (v.toNat % 2 = 1)) where
  result v _ := by rw [rotResult, and_0x80_eq_bitAt, toNat_shiftRight_or_bitAt, toNat_getLsbD_seven]
  carry := getLsbD_zero_eq_decide

theorem swap_computes : RotComputes .swap (fun v _ => 16 * (v.toNat % 16) + v.toNat / 16) (fun _ => false) where
  result v _ := toNat_swap v
  carry _ := rfl

theorem srl_computes : RotComputes .srl (fun v _ => v.toNat / 2) (fun v => decide (v.toNat % 2 = 1)) where
  result v _ := toNat_shiftRight_one v
  carry := getLsbD_zero_eq_decide

theorem rotAFlags_eq (g : Config) (op : RotOp) (v : Byte) (f : Flags) :
    rotAFlags g op v f = ⟨if g.rotAZ = .clear then false else f.z, false, false, rotCarry op v⟩ := by
  rw [rotAFlags]
  cases g.rotAZ <;> rfl

section

variable {op : RotOp} {res : Byte → Bool → Nat} {out : Byte → Bool}

theorem RotComputes.rotResult_eq (h : RotComputes op res out) (v : Byte) (cin : Bool) :
    rotResult op v cin = BitVec.ofNat 8 (res v cin) :=
  eq_ofNat_of_toNat_eq (h.result v cin)

theorem RotComputes.rotFlags_eq (h : RotComputes op res out) (v : Byte) (cin : Bool) :
    rotFlags op v cin = ⟨decide (res v cin = 0), false, false, out v⟩ := by
  rw [rotFlags, beq_zero_eq_decide, h.result, h.carry]

/-- An accumulator rotate leaves Z as it was, or clears it, as ROT_A_Z says (R260). -/
theorem RotComputes.rotA_eq (h : RotComputes op res out) (s : State) :
    rotA op s = .next { s with
      a := BitVec.ofNat 8 (res s.a s.f.c)
      f := { z := if s.cfg.rotAZ = .clear then false else s.f.z, n := false, h := false, c := out s.a }
      cycles := some 4 } := by
  rw [← h.rotResult_eq, ← h.carry, ← rotAFlags_eq]
  rfl

/-- The CB forms of an operation: on a register, and on the byte at HL (R265 to R280). -/
theorem RotComputes.encode_exec (h : RotComputes op res out) :
    (∀ i r, i.form = .rotR op r → encode i = [0xCB, opByte (8 * op.code + r.code)] ∧
      ∀ s, exec i s = .next { s.setReg r (BitVec.ofNat 8 (res (s.reg r) s.f.c)) with
        f := ⟨decide (res (s.reg r) s.f.c = 0), false, false, out (s.reg r)⟩, cycles := some 8 }) ∧
    (∀ i, i.form = .rotHl op → encode i = [0xCB, opByte (8 * op.code + 6)] ∧
      ∀ s, exec i s = .next { s.memWrite s.hl (BitVec.ofNat 8 (res (s.rawRead s.hl) s.f.c)) with
        f := ⟨decide (res (s.rawRead s.hl) s.f.c = 0), false, false, out (s.rawRead s.hl)⟩, cycles := some 16 }) := by
  simp only [← h.rotResult_eq, ← h.rotFlags_eq]
  exact ⟨fun _ _ rotR => encode_exec_of_form rotR, fun _ rotHl => encode_exec_of_form rotHl⟩

end

/-- Settles O15: each of the four rotates by the number it computes; the code of RLC is 0. -/
theorem rotates : Obligations.Rotates := by
  unfold Obligations.Rotates
  obtain ⟨rlcR, rlcHl⟩ := rlc_computes.encode_exec
  obtain ⟨rrcR, rrcHl⟩ := rrc_computes.encode_exec
  obtain ⟨rlR, rlHl⟩ := rl_computes.encode_exec
  obtain ⟨rrR, rrHl⟩ := rr_computes.encode_exec
  have rlc_code (r : Reg8) : 8 * RotOp.rlc.code + r.code = r.code := Nat.zero_add r.code
  simp only [rlc_code] at rlcR
  exact ⟨fun _ rlca => (encode_exec_of_form rlca).imp_right fun hexec s => (hexec s).trans (rlc_computes.rotA_eq s),
    fun _ rrca => (encode_exec_of_form rrca).imp_right fun hexec s => (hexec s).trans (rrc_computes.rotA_eq s),
    fun _ rla => (encode_exec_of_form rla).imp_right fun hexec s => (hexec s).trans (rl_computes.rotA_eq s),
    fun _ rra => (encode_exec_of_form rra).imp_right fun hexec s => (hexec s).trans (rr_computes.rotA_eq s),
    rlcR, rlcHl, rrcR, rrcHl, rlR, rlHl, rrR, rrHl⟩

/-- Settles O16: each of the three shifts and SWAP by the number it computes. -/
theorem shiftsAndSwap : Obligations.ShiftsAndSwap := by
  unfold Obligations.ShiftsAndSwap
  obtain ⟨slaR, slaHl⟩ := sla_computes.encode_exec
  obtain ⟨sraR, sraHl⟩ := sra_computes.encode_exec
  obtain ⟨swapR, swapHl⟩ := swap_computes.encode_exec
  obtain ⟨srlR, srlHl⟩ := srl_computes.encode_exec
  exact ⟨slaR, slaHl, sraR, sraHl, swapR, swapHl, srlR, srlHl⟩

/-! ### Operations on one bit -/

theorem bitFlags_eq (b : Fin 8) (v : Byte) (f : Flags) :
    bitFlags b v f = ⟨decide (v.toNat / 2 ^ b.val % 2 = 0), false, true, f.c⟩ := by
  rw [bitFlags, ← toNat_getLsbD]
  cases v.getLsbD b.val <;> rfl

theorem toNat_or_of_and_eq_zero {x y : Byte} (h : x &&& y = 0#8) : (x ||| y).toNat = x.toNat + y.toNat := by
  rw [← BitVec.add_eq_or_of_and_eq_zero x y h, BitVec.toNat_add_of_and_eq_zero h]

/-- A mask parts a byte in two. -/
theorem toNat_and_not_add_toNat_and (v mask : Byte) : (v &&& ~~~mask).toNat + (v &&& mask).toNat = v.toNat := by
  have hdisjoint : (v &&& ~~~mask) &&& (v &&& mask) = 0#8 := by
    ext
    grind
  have hunion : (v &&& ~~~mask) ||| (v &&& mask) = v := by
    ext
    grind
  rw [← toNat_or_of_and_eq_zero hdisjoint, hunion]

/-- Setting the bits of a mask is clearing them and adding the mask. -/
theorem toNat_or_eq_toNat_and_not_add (v mask : Byte) :
    (v ||| mask).toNat = (v &&& ~~~mask).toNat + mask.toNat := by
  have hdisjoint : (v &&& ~~~mask) &&& mask = 0#8 := by
    rw [BitVec.and_assoc, BitVec.not_and_self]
    exact BitVec.and_zero
  have hunion : (v &&& ~~~mask) ||| mask = v ||| mask := by
    ext
    grind
  rw [← toNat_or_of_and_eq_zero hdisjoint, hunion]

theorem toNat_one_shiftLeft (b : Fin 8) : (0x01#8 <<< b.val).toNat = 2 ^ b.val := by
  rw [← BitVec.twoPow_eq, BitVec.toNat_twoPow_of_lt b.isLt]

/-- The part of the byte under the mask of RES and SET. -/
theorem toNat_and_one_shiftLeft (b : Fin 8) (v : Byte) :
    (v &&& 0x01#8 <<< b.val).toNat = 2 ^ b.val * (v.toNat / 2 ^ b.val % 2) := by
  rw [BitVec.toNat_and, toNat_one_shiftLeft, Nat.and_two_pow, Nat.toNat_testBit, Nat.mul_comm]

theorem toNat_clearBit_add (b : Fin 8) (v : Byte) :
    (clearBit b v).toNat + 2 ^ b.val * (v.toNat / 2 ^ b.val % 2) = v.toNat := by
  rw [← toNat_and_one_shiftLeft]
  exact toNat_and_not_add_toNat_and v _

theorem toNat_setBit (b : Fin 8) (v : Byte) : (setBit b v).toNat = (clearBit b v).toNat + 2 ^ b.val := by
  rw [← toNat_one_shiftLeft]
  exact toNat_or_eq_toNat_and_not_add v _

/-- RES takes the bit away where it is set (R283). -/
theorem clearBit_eq_ofNat (b : Fin 8) (v : Byte) :
    clearBit b v = BitVec.ofNat 8 (v.toNat - 2 ^ b.val * (v.toNat / 2 ^ b.val % 2)) :=
  eq_ofNat_of_toNat_eq (Nat.eq_sub_of_add_eq (toNat_clearBit_add b v))

/-- SET adds the bit where it is clear (R285). -/
theorem setBit_eq_ofNat (b : Fin 8) (v : Byte) :
    setBit b v = BitVec.ofNat 8 (v.toNat + 2 ^ b.val * (1 - v.toNat / 2 ^ b.val % 2)) := by
  have hbit : v.toNat / 2 ^ b.val % 2 ≤ 1 := Nat.le_of_lt_succ (Nat.mod_lt _ two_pos)
  have hmask : 2 ^ b.val * (v.toNat / 2 ^ b.val % 2) + 2 ^ b.val * (1 - v.toNat / 2 ^ b.val % 2) = 2 ^ b.val := by
    rw [← Nat.mul_add, Nat.add_sub_cancel' hbit, Nat.mul_one]
  apply eq_ofNat_of_toNat_eq
  calc (setBit b v).toNat = (clearBit b v).toNat + 2 ^ b.val := toNat_setBit b v
    _ = v.toNat + 2 ^ b.val * (1 - v.toNat / 2 ^ b.val % 2) := by
      have hclear := toNat_clearBit_add b v
      omega

/-- Settles O17: with the model's own operations for the tested bit and the results, each clause is what its form
encodes to and does. -/
theorem bitResSet : Obligations.BitResSet := by
  unfold Obligations.BitResSet
  intro tested res set
  have htested : (fun s b v count => { s with f := bitFlags b v s.f, cycles := some count }) = tested := by
    simp only [bitFlags_eq, tested]
  have hres : clearBit = res := funext₂ clearBit_eq_ofNat
  have hset : setBit = set := funext₂ setBit_eq_ofNat
  rw [← htested, ← hres, ← hset]
  exact ⟨fun _ _ _ bitR => encode_exec_of_form bitR,
    fun _ _ bitHl => encode_exec_of_form bitHl,
    fun _ _ _ resR => encode_exec_of_form resR,
    fun _ _ resHl => encode_exec_of_form resHl,
    fun _ _ _ setR => encode_exec_of_form setR,
    fun _ _ setHl => encode_exec_of_form setHl⟩

end Sys2Proof.Machine
end

section
/-! SUPPORT. Control transfer (O18, O19): the condition as a test of one flag, the signed byte of a relative jump, the
two writes of a call, and the interrupt enable of RETI. -/

namespace Sys2Proof.Machine

/-! ### Conditional transfers -/

/-- `cond(cc)` on the flags alone (R300): the flag that the condition names, against the value it asks for. -/
def flagTest (cc : Cond) (f : Flags) : Bool :=
  match cc with
  | .nz => f.z == false
  | .z => f.z == true
  | .nc => f.c == false
  | .c => f.c == true

theorem State.cond_eq_flagTest (s : State) (cc : Cond) : s.cond cc = flagTest cc s.f := by
  cases cc with
  | nz | nc => exact (beq_false _).symm
  | z | c => exact (beq_true _).symm

/-- A form that branches on its condition encodes as itself, and answers the one state or the other by that flag
(R302, R305, R307, R309). -/
theorem encode_exec_of_cond {i : Instr} {f : Form} {cc : Cond} {taken untaken : State → State} (h : i.form = f)
    (hbranch : ∀ s, execForm f s = if s.cond cc then .next (taken s) else .next (untaken s)) :
    encode i = f.encode ∧ ∀ s, exec i s = .next (if flagTest cc s.f then taken s else untaken s) :=
  (encode_exec_of_form h).imp_right fun hexec s => by
    rw [hexec, hbranch, State.cond_eq_flagTest, apply_ite Host.Outcome.next]

/-! ### Jumps -/

/-- The sign extension of R10: `e` when bit 7 is 0, and `e + 0xFF00` when it is 1. -/
theorem sext16_eq (e : Byte) :
    sext16 e = if e.toNat < 128 then e.setWidth 16 else e.setWidth 16 + 0xFF00 := by
  have hmsb : e.msb = decide (128 ≤ e.toNat) := BitVec.msb_eq_decide e
  unfold sext16
  split_ifs with hlow
  · exact BitVec.signExtend_eq_setWidth_of_msb_false (hmsb.trans (decide_eq_false hlow.not_ge))
  · have hneg : e.msb = true := hmsb.trans (decide_eq_true (not_lt.mp hlow))
    apply BitVec.eq_of_toNat_eq
    rw [BitVec.toNat_signExtend, if_pos hneg]
    bv_omega

/-- Settles O18: with the model's sign extension and the test of one flag, each clause is what its form encodes to and
does. -/
theorem jumps : Obligations.Jumps := by
  unfold Obligations.Jumps
  intro holds forward
  have hholds : flagTest = holds := rfl
  have hforward : (fun pc e => pc + sext16 e) = forward := by simp only [sext16_eq, forward]
  rw [← hholds, ← hforward]
  exact ⟨fun _ _ jp => encode_exec_of_form jp,
    fun _ _ _ jpCc => encode_exec_of_cond jpCc fun _ => rfl,
    fun _ jpHl => encode_exec_of_form jpHl,
    fun _ _ jr => encode_exec_of_form jr,
    fun _ _ _ jrCc => encode_exec_of_cond jrCc fun _ => rfl⟩

/-! ### Calls, restarts and returns -/

/-- A call writes the address after it, high byte first, below the old SP, and goes to the target (R306, R310). -/
theorem State.setPc_push16_pc (s : State) (target : Word) :
    (s.push16 s.pc).setPc target =
      { (s.memWrite (s.sp - 1) (hi8 s.pc)).memWrite (s.sp - 2) (lo8 s.pc) with sp := s.sp - 2, pc := target } := by
  rw [State.push16_eq]
  rfl

/-- DI and RETI schedule the interrupt enable, and write it at once under `IME_TIMING = hw` (R412). -/
theorem State.scheduleImeTimed_eq (s : State) (v : Bool) :
    s.scheduleImeTimed v = { s with
      scheduledIme := v, wroteSchedule := true, ime := if s.cfg.imeTiming = .hw then v else s.ime } := by
  unfold State.scheduleImeTimed
  cases s.cfg.imeTiming <;> rfl

/-- Settles O19: with the model's own operations for a call and for the test of one flag, each clause is what its form
encodes to and does; RETI by `scheduleImeTimed_eq`. -/
theorem callsAndReturns : Obligations.CallsAndReturns := by
  unfold Obligations.CallsAndReturns
  intro holds called returned
  have hholds : flagTest = holds := rfl
  have hcalled : (fun s target count => ((s.push16 s.pc).setPc target).returns count) = called := by
    simp only [State.setPc_push16_pc, State.returns, called]
  rw [← hholds, ← hcalled]
  exact ⟨fun _ _ call => encode_exec_of_form call,
    fun _ _ _ callCc => encode_exec_of_cond callCc fun _ => rfl,
    fun _ _ rst => encode_exec_of_form rst,
    fun _ ret => encode_exec_of_form ret,
    fun _ _ retCc => encode_exec_of_cond retCc fun _ => rfl,
    fun _ reti => (encode_exec_of_form reti).imp_right fun hexec s => by
      rw [hexec, execForm, execReti, State.scheduleImeTimed_eq]
      rfl⟩

end Sys2Proof.Machine
end

section
/-! SUPPORT. The system instructions (O20) and the unassigned bytes (O21): each clause is the encoding line and the
meaning of its form, and DI writes the interrupt enable as `IME_TIMING` says. -/

namespace Sys2Proof.Machine

/-- DI schedules false, and clears `ime` at once under `IME_TIMING = hw` (R343, R412). -/
theorem execDi_eq (s : State) :
    execDi s = .next { s with
      scheduledIme := false, wroteSchedule := true
      ime := if s.cfg.imeTiming = .hw then false else s.ime, cycles := some 4 } := by
  rw [execDi, State.scheduleImeTimed_eq]
  rfl

/-- Settles O20: each clause is what its form encodes to and does; DI by `execDi_eq`. -/
theorem systemInstructions : Obligations.SystemInstructions := by
  unfold Obligations.SystemInstructions
  exact ⟨fun _ nop => encode_exec_of_form nop,
    fun _ halt => encode_exec_of_form halt,
    fun _ _ stop => encode_exec_of_form stop,
    fun _ di => (encode_exec_of_form di).imp_right fun hexec s => (hexec s).trans (execDi_eq s),
    fun _ ei => encode_exec_of_form ei⟩

/-- Settles O21: the rows of the unsupported form are those of `unassigned`, and all run `raiseUnsupported`. -/
theorem unassignedBytesRaise : Obligations.UnassignedBytesRaise := by
  unfold Obligations.UnassignedBytesRaise
  exact fun _ _ unsupported => ⟨mem_unassigned_of_form unsupported, encode_exec_of_form unsupported⟩

end Sys2Proof.Machine
end

section
/-! SUPPORT. Answers and errors (O34, O36, O37, O38): each way of a CPU step from what picks it out, that every step
answers, and the one way in which a step records an error. -/

namespace Sys2Proof.Machine

/-! ### The three ways of a CPU step, each from what picks it out -/

theorem State.cpuStep_of_idle {s : State} (hhalted : s.halted = true) (hpending : s.pending = 0) :
    s.cpuStep = .next ({ s with wroteSchedule := false }.returns 4).endStep := by
  obtain ⟨-, -, idle⟩ | ⟨hruns, -⟩ | ⟨hruns, -⟩ := cpuStep_cases s
  · exact idle
  · exact absurd hpending (hruns.resolve_left (by simp [hhalted]))
  · exact absurd hpending (hruns.resolve_left (by simp [hhalted]))

theorem State.cpuStep_of_dispatches {s : State} (h : s.dispatches = true) :
    s.cpuStep = .next s.awake.takeInterrupt.endStep := by
  obtain ⟨-, hpending, -⟩ | ⟨-, -, interrupt⟩ | ⟨-, hirq, -⟩ := cpuStep_cases s
  · simp [State.dispatches, hpending] at h
  · exact interrupt
  · exact absurd h (by simp [hirq])

theorem State.cpuStep_of_runs {s t : State} (hruns : s.halted = false ∨ s.pending ≠ 0) (hirq : s.dispatches = false)
    (hexec : exec s.fetched s.awake.pastFetched = .next t) : s.cpuStep = .next t.afterInstruction := by
  obtain ⟨hhalted, hpending, -⟩ | ⟨-, htaken, -⟩ | ⟨-, -, t', hexec', hstep⟩ := cpuStep_cases s
  · exact absurd hpending (hruns.resolve_left (by simp [hhalted]))
  · exact absurd htaken (by simp [hirq])
  · obtain rfl := Host.Outcome.next.inj (hexec.symm.trans hexec')
    exact hstep

/-! ### Every step answers -/

theorem step_of_fault {s : State} {r : ErrorRecord} (h : s.fault = some r) : step s = .fault (.stopped r) := by
  simp only [step, h]

theorem State.cpuStep_next (s : State) : ∃ u, s.cpuStep = .next u := by
  obtain ⟨-, -, idle⟩ | ⟨-, -, interrupt⟩ | ⟨-, -, t, -, instruction⟩ := cpuStep_cases s
  · exact ⟨_, idle⟩
  · exact ⟨_, interrupt⟩
  · exact ⟨_, instruction⟩

theorem step_of_writeLy {s : State} (hf : s.fault = none) (hp : s.phase = .writeLy) :
    step s = .next s.lyTransition := by
  simp only [step, hf, State.transition, hp]

theorem step_of_tick {s : State} (hf : s.fault = none) (hp : s.phase = .tick) : step s = .next s.tickTransition := by
  simp only [step, hf, State.transition, hp]

theorem step_of_draw {s : State} (hf : s.fault = none) (hp : s.phase = .draw) : step s = .next s.drawTransition := by
  simp only [step, hf, State.transition, hp]

theorem step_next {s : State} (h : s.fault = none) : ∃ t, step s = .next t := by
  cases hp : s.phase with
  | writeLy => exact ⟨_, step_of_writeLy h hp⟩
  | cpu =>
    obtain ⟨u, hu⟩ := s.cpuStep_next
    exact ⟨_, step_of_cpuStep h hp hu⟩
  | tick => exact ⟨_, step_of_tick h hp⟩
  | draw => exact ⟨_, step_of_draw h hp⟩

/-- Settles O38: by the error record, and then by the phase. -/
theorem everyStepAnswers : Obligations.EveryStepAnswers := by
  unfold Obligations.EveryStepAnswers
  intro s
  cases hf : s.fault with
  | none => exact .inl ⟨rfl, step_next hf⟩
  | some r => exact .inr ⟨r, rfl, step_of_fault hf⟩

/-! ### Where an error is recorded -/

@[simp] theorem State.afterCpu_fault (s : State) : s.afterCpu.fault = s.fault := by
  unfold State.afterCpu
  split <;> simp_all
@[simp] theorem State.afterCpu_cycles (s : State) : s.afterCpu.cycles = s.cycles := by
  unfold State.afterCpu
  split <;> rfl
@[simp] theorem State.takeInterrupt_fault (s : State) : s.takeInterrupt.fault = s.fault := by
  simp [State.takeInterrupt]
@[simp] theorem State.tick_fault (s : State) (n : Nat) : (s.tick n).fault = s.fault := by rw [State.tick_eq]
@[simp] theorem State.afterDraw_fault (s : State) : s.afterDraw.fault = s.fault := by rw [State.afterDraw_eq]

/-- What the fetch of an unassigned byte leaves (R401): the record, PC past the byte, no count, a CPU awake. -/
def State.unsupportedRaised (s : State) : State :=
  { s with
    fault := some (.unsupportedOpcode (s.rawRead s.pc) false s.pc), pc := s.pc + 1, cycles := none
    halted := false, wroteSchedule := false }

/-- A state whose CPU step fetches an unassigned byte: the step is not idle and takes no interrupt (R405, R415). -/
structure State.FetchesUnassigned (s : State) : Prop where
  runs : s.halted = false ∨ s.pending ≠ 0
  noInterrupt : s.dispatches = false
  unassigned : s.rawRead s.pc ∈ unassigned

/-- An unassigned byte is one byte long, so the address it was fetched from is one below the PC past it. -/
theorem exec_unassigned_awake {s : State} (h : s.rawRead s.pc ∈ unassigned) :
    exec s.fetched s.awake.pastFetched = .next s.unsupportedRaised := by
  have hform : s.fetched.form = .unsupported (s.rawRead s.pc) := form_decodeBytes_of_mem_unassigned h _ _
  have hlength : s.awake.fetched.length = 1 := by
    rw [← length_encode, encode_of_form_unsupported (i := s.awake.fetched) hform]
    rfl
  have hpast : s.awake.pastFetched = s.awake.setPc (s.pc + 1) := by
    rw [State.pastFetched_eq, hlength]
    rfl
  have hpc : s.pc + 1 - 1 = s.pc := by bv_omega
  rw [exec_eq_execForm, hform, hpast]
  show Host.Outcome.next _ = _
  rw [State.setPc_pc, hpc]
  rfl

theorem State.FetchesUnassigned.cpuStep {s : State} (h : s.FetchesUnassigned) :
    s.cpuStep = .next s.unsupportedRaised :=
  State.cpuStep_of_runs h.runs h.noInterrupt (exec_unassigned_awake h.unassigned)

/-- Idling and taking an interrupt record no error, and of the instructions only the unassigned bytes do. -/
theorem State.fetchesUnassigned_of_cpuStep {s u : State} (hs : s.fault = none) (h : s.cpuStep = .next u)
    (hu : u.fault ≠ none) : s.FetchesUnassigned := by
  obtain ⟨-, -, idle⟩ | ⟨-, -, interrupt⟩ | ⟨hruns, hirq, t, run, instruction⟩ := cpuStep_cases s
  · obtain rfl := Host.Outcome.next.inj (h.symm.trans idle)
    exact absurd (by simpa using hs) hu
  · obtain rfl := Host.Outcome.next.inj (h.symm.trans interrupt)
    exact absurd (by rw [State.endStep_fault, State.takeInterrupt_fault]; exact hs) hu
  · obtain rfl := Host.Outcome.next.inj (h.symm.trans instruction)
    refine ⟨hruns, hirq, ?_⟩
    by_contra hop
    rw [exec_eq_execForm] at run
    have kept : t.fault = s.awake.pastFetched.fault :=
      execForm_fault run (form_decodeBytes_ne_unsupported hop _ _)
    rw [State.afterInstruction_fault, kept] at hu
    exact hu hs

/-- The one way in which a step records an error (R401, R405). -/
theorem step_fault_cases {s t : State} (h : step s = .next t) :
    t.fault = none ∨ (s.phase = .cpu ∧ s.FetchesUnassigned ∧ t = s.unsupportedRaised) := by
  obtain ⟨hs, ⟨-, rfl⟩ | ⟨hp, u, hu, rfl⟩ | ⟨-, rfl⟩ | ⟨-, rfl⟩⟩ := step_cases h
  · exact .inl hs
  · by_cases hfault : u.fault = none
    · exact .inl (u.afterCpu_fault.trans hfault)
    · have hfetch := State.fetchesUnassigned_of_cpuStep hs hu hfault
      obtain rfl := Host.Outcome.next.inj (hu.symm.trans hfetch.cpuStep)
      exact .inr ⟨hp, hfetch, rfl⟩
  · exact .inl ((s.tick_fault _).trans hs)
  · exact .inl (s.afterDraw_fault.trans hs)

theorem step_fault_iff {s t : State} (h : step s = .next t) :
    t.fault ≠ none ↔ s.phase = .cpu ∧ s.FetchesUnassigned := by
  constructor
  · intro hfault
    obtain ⟨hp, hfetch, -⟩ := (step_fault_cases h).resolve_left hfault
    exact ⟨hp, hfetch⟩
  · rintro ⟨hp, hfetch⟩
    have hs : s.fault = none := (step_cases h).1
    obtain rfl := Host.Outcome.next.inj (h.symm.trans (step_of_cpuStep hs hp hfetch.cpuStep))
    simp [State.unsupportedRaised]

/-- Settles O37: by the one way in which a step records an error. -/
theorem errorIsPrecise : Obligations.ErrorIsPrecise := by
  unfold Obligations.ErrorIsPrecise
  intro s t h op
  constructor
  · rw [step_fault_iff h]
    constructor
    · rintro ⟨hp, hruns, hirq, hop⟩
      exact ⟨hp, hruns, s.dispatches_eq_false_iff.mp hirq, hop⟩
    · rintro ⟨hp, hruns, hirq, hop⟩
      exact ⟨hp, hruns, s.dispatches_eq_false_iff.mpr hirq, hop⟩
  · intro hfault
    obtain ⟨-, -, ht⟩ := (step_fault_cases h).resolve_left hfault
    exact ⟨rfl, ht⟩

/-- A step that records an error returns no count (R400). -/
theorem step_cycles_of_fault {s t : State} (h : step s = .next t) (ht : t.fault ≠ none) : t.cycles = none := by
  obtain ⟨-, -, rfl⟩ := (step_fault_cases h).resolve_left ht
  rfl

/-- Settles O36: a step looks at the record first, and one that sets it clears the count. -/
theorem errorIsFatal : Obligations.ErrorIsFatal := by
  unfold Obligations.ErrorIsFatal
  exact ⟨fun _ _ hs => step_of_fault hs,
    fun s t r h ht => ⟨step_cycles_of_fault h (by simp [ht]), step_of_fault ht⟩⟩

/-- Settles O34: a CPU step without an error returns a legal count, one with an error none. -/
theorem stepCounts : Obligations.StepCounts := by
  unfold Obligations.StepCounts
  intro s t hp h
  refine ⟨fun ht => ?_, step_cycles_of_fault h⟩
  obtain ⟨u, hu⟩ := s.cpuStep_next
  obtain rfl := Host.Outcome.next.inj (h.symm.trans (step_of_cpuStep (step_cases h).1 hp hu))
  rw [State.afterCpu_fault] at ht
  have hcount := State.cpuStep_cycles hu ht
  simpa [legalCount, Option.any_eq_true] using hcount

end Sys2Proof.Machine
end

section
/-! SUPPORT. Halting, interrupts and their enable (O30 to O32): the idle step and the wake, the interrupt of the lowest
pending request, and the step after EI. -/

namespace Sys2Proof.Machine

theorem State.afterCpu_of_fault {s : State} (h : s.fault = none) : s.afterCpu = { s with phase := .tick } := by
  simp only [State.afterCpu, h]

/-- Without an interrupt, a CPU that is not halted runs the instruction at PC. -/
theorem State.cpuStep_of_running {s u : State} (hhalted : s.halted = false) (hirq : s.dispatches = false)
    (h : s.cpuStep = .next u) :
    ∃ t, execForm s.fetched.form s.awake.pastFetched = .next t ∧ u = t.afterInstruction := by
  obtain ⟨t, hexec⟩ := exec_next s.fetched s.awake.pastFetched
  refine ⟨t, ?_, Host.Outcome.next.inj (h.symm.trans (State.cpuStep_of_runs (.inl hhalted) hirq hexec))⟩
  rwa [exec_eq_execForm] at hexec

/-- With a request pending a halted CPU wakes, whatever `ime` and `IRQ_DISPATCH` are (R414). -/
theorem State.cpuStep_wake {s : State} (h : s.pending ≠ 0) : s.cpuStep = { s with halted := false }.cpuStep := by
  have busy : (s.halted && s.pending == 0) = false := by
    rw [beq_eq_false_iff_ne.mpr h, Bool.and_false]
  unfold State.cpuStep
  simp only [Bool.false_and, Bool.false_eq_true, if_false]
  exact if_neg (Bool.eq_false_iff.mp busy)

/-- Settles O30: the idle step by `cpuStep_of_idle`, the wake by `cpuStep_wake`. -/
theorem haltedStep : Obligations.HaltedStep := by
  unfold Obligations.HaltedStep
  intro s hfault hphase hhalted pending
  constructor
  · intro hnone
    have noError : ({ s with wroteSchedule := false }.returns 4).endStep.fault = none :=
      (State.endStep_fault _).trans hfault
    rw [step_of_cpuStep hfault hphase (State.cpuStep_of_idle hhalted hnone), State.afterCpu_of_fault noError]
    rfl
  · intro hsome
    obtain ⟨u, hu⟩ := s.cpuStep_next
    rw [step_of_cpuStep hfault hphase hu]
    exact (step_of_cpuStep (s := { s with halted := false }) hfault hphase
      ((State.cpuStep_wake hsome).symm.trans hu)).symm

/-! ### Taking an interrupt -/

theorem lowestPending_eq {p : Byte} {k : Nat} (hk : k < 5) (hset : p.getLsbD k = true)
    (hlower : ∀ j < k, p.getLsbD j = false) : lowestPending p = k := by
  have unset (j : Nat) (hj : j < k) : ¬ p.getLsbD j = true := by simp [hlower j hj]
  unfold lowestPending
  interval_cases k
  · rw [if_pos hset]
  · rw [if_neg (unset 0 (by decide)), if_pos hset]
  · rw [if_neg (unset 0 (by decide)), if_neg (unset 1 (by decide)), if_pos hset]
  · rw [if_neg (unset 0 (by decide)), if_neg (unset 1 (by decide)), if_neg (unset 2 (by decide)), if_pos hset]
  · rw [if_neg (unset 0 (by decide)), if_neg (unset 1 (by decide)), if_neg (unset 2 (by decide)),
      if_neg (unset 3 (by decide))]

theorem State.pending_ne_zero_of_getLsbD {s : State} {k : Nat} (h : s.pending.getLsbD k = true) : s.pending ≠ 0 := by
  intro h0
  simp [h0] at h

/-- An interrupt writes the schedule itself, so the end of the step leaves `ime` (R411, R421). -/
theorem State.endStep_takeInterrupt (s : State) : s.takeInterrupt.endStep = s.takeInterrupt := by
  have hwrote : s.takeInterrupt.wroteSchedule = true := by simp [State.takeInterrupt]
  exact if_pos hwrote

/-- An interrupt acknowledges the lowest pending request `k`, disables interrupts, pushes PC and goes to the vector
(R421). -/
theorem State.takeInterrupt_eq {s : State} {k : Nat} (hk : lowestPending s.pending = k) :
    let u := { s with
      mem := Memory.write s.mem 0xFF0F (s.rawRead 0xFF0F &&& ~~~(0x01#8 <<< k))
      ime := false, scheduledIme := false, wroteSchedule := true }
    s.takeInterrupt = { (u.memWrite (s.sp - 1) (hi8 s.pc)).memWrite (s.sp - 2) (lo8 s.pc) with
      sp := s.sp - 2, pc := BitVec.ofNat 16 (0x40 + 8 * k), cycles := some 20 } := by
  intro u
  have hvector : (0x0040 : Word) + BitVec.ofNat 16 (8 * k) = BitVec.ofNat 16 (0x40 + 8 * k) := by bv_omega
  have hpush : s.takeInterrupt = ((u.push16 u.pc).setPc (0x0040 + BitVec.ofNat 16 (8 * k))).returns 20 := by
    subst hk
    rfl
  rw [hpush, State.push16_eq, hvector]
  rfl

/-- Settles O31: the halted CPU wakes, and the interrupt of the lowest pending request is taken. -/
theorem interruptIsTaken : Obligations.InterruptIsTaken := by
  unfold Obligations.InterruptIsTaken
  intro s k hfault hphase hdispatch hime hk pending hset hlower u
  have htaken : s.dispatches = true := by
    have hpending : s.pending ≠ 0 := State.pending_ne_zero_of_getLsbD hset
    rw [State.dispatches, hdispatch, hime, bne_iff_ne.mpr hpending]
    rfl
  have hlowest : lowestPending s.awake.pending = k := lowestPending_eq hk hset hlower
  rw [step_of_cpuStep hfault hphase (State.cpuStep_of_dispatches htaken), State.endStep_takeInterrupt,
    State.afterCpu_of_fault (s.awake.takeInterrupt_fault.trans hfault), State.takeInterrupt_eq hlowest]
  rfl

/-! ### The delayed enable -/

theorem State.dispatches_of_ime_false {s : State} (h : s.ime = false) : s.dispatches = false := by
  simp [State.dispatches, h]

theorem State.afterInstruction_of_fault {s : State} (h : s.fault = none) : s.afterInstruction = s.endStep := by
  simp only [State.afterInstruction, h]

/-- EI leaves `ime` for the next step to set (R344, R411). -/
theorem execEi_afterInstruction {s t : State} (hs : s.fault = none) (h : execForm .ei s = .next t) :
    t.afterInstruction = { s with scheduledIme := true, wroteSchedule := true, cycles := some 4 } := by
  cases h
  exact State.afterInstruction_of_fault hs

/-- DI leaves `ime` clear where it was clear, at once and at the end of its step (R343, R412). -/
theorem execDi_afterInstruction_ime {s t : State} (hime : s.ime = false) (h : execForm .di s = .next t) :
    t.afterInstruction.ime = false ∧ t.afterInstruction.scheduledIme = false := by
  have ht : t = _ := Host.Outcome.next.inj (h.symm.trans (execDi_eq s))
  subst ht
  unfold State.afterInstruction
  split <;> simp [State.endStep, hime]

/-- After an instruction that writes no schedule, `ime` takes the scheduled value (R411). -/
theorem State.afterInstruction_ime_of_schedulesIme {f : Form} {s t : State} (hf : schedulesIme f = false)
    (hs : s.wroteSchedule = false) (h : execForm f s = .next t) (ht : t.fault = none) :
    t.afterInstruction.ime = s.scheduledIme := by
  obtain ⟨-, hscheduled, hwrote⟩ := execForm_ime h hf
  simp only [State.afterInstruction, ht]
  rw [State.endStep_ime, hwrote, hs, hscheduled]
  rfl

theorem State.tick_ime (s : State) (n : Nat) : (s.tick n).ime = s.ime := by rw [State.tick_eq]
theorem State.tick_scheduledIme (s : State) (n : Nat) : (s.tick n).scheduledIme = s.scheduledIme := by
  rw [State.tick_eq]
theorem State.tick_halted (s : State) (n : Nat) : (s.tick n).halted = s.halted := by rw [State.tick_eq]

/-- Settles O32: EI, then the tick, then DI or an instruction that writes no schedule. -/
theorem enableIsDelayed : Obligations.EnableIsDelayed := by
  unfold Obligations.EnableIsDelayed
  intro s t n hfault hhalted hime hei hstep
  obtain ⟨t', run, ht⟩ := State.cpuStep_of_running hhalted (State.dispatches_of_ime_false hime) hstep
  rw [hei] at run
  rw [execEi_afterInstruction (s := s.awake.pastFetched) hfault run] at ht
  have disabled : t.ime = false := by rw [ht]; exact hime
  have scheduled : t.scheduledIme = true := by rw [ht]
  have running : t.halted = false := by rw [ht]; rfl
  refine ⟨disabled, scheduled, by rw [ht], ?_⟩
  intro u hnext hu
  have stillDisabled : (t.tick n).ime = false := (t.tick_ime n).trans disabled
  obtain ⟨u', run', rfl⟩ := State.cpuStep_of_running ((t.tick_halted n).trans running)
    (State.dispatches_of_ime_false stillDisabled) hnext
  constructor
  · intro hdi
    rw [hdi] at run'
    exact execDi_afterInstruction_ime (s := (t.tick n).awake.pastFetched) stillDisabled run'
  · intro hf
    rw [State.afterInstruction_fault] at hu
    calc u'.afterInstruction.ime
      _ = (t.tick n).awake.pastFetched.scheduledIme :=
        State.afterInstruction_ime_of_schedulesIme hf rfl run' hu
      _ = true := (t.tick_scheduledIme n).trans scheduled

end Sys2Proof.Machine
end

section
/-! SUPPORT. The timer (O39 to O41): the div advance is a loop of T-cycles, and each fall of the selected bit counts. -/

namespace Sys2Proof.Machine

theorem timerCycles_eq_iterate (sel : Nat) (en : Bool) (n : Nat) (r : TimerRegs) :
    timerCycles sel en n r = (timerCycle sel en)^[n] r := by
  induction n generalizing r with
  | zero => rfl
  | succ n ih => exact ih _

theorem timerCycles_succ (sel : Nat) (en : Bool) (n : Nat) (r : TimerRegs) :
    timerCycles sel en (n + 1) r = timerCycle sel en (timerCycles sel en n r) := by
  simp only [timerCycles_eq_iterate, Function.iterate_succ_apply']

theorem timerBit_eq_getD (tac : Byte) : timerBit tac = [9, 3, 5, 7].getD (tac &&& 0x03).toNat 0 := by
  have hlt : (tac &&& 0x03).toNat < 4 := by
    rw [toNat_and_mask 2 tac rfl]
    omega
  unfold timerBit
  generalize (tac &&& 0x03).toNat = i at hlt ⊢
  interval_cases i <;> rfl

/-- Settles O39: the parts of a tick are the model's, written out. -/
theorem tickOrder : Obligations.TickOrder := by
  unfold Obligations.TickOrder
  intro s n
  refine ⟨rfl, ?_, rfl⟩
  unfold State.timerReload
  split <;> rfl

/-! ### The rule's loop -/

/-- The timer's part of a state, as the model's div advance reads it. -/
def State.timerRegs (s : State) : TimerRegs := ⟨s.div, s.rawRead 0xFF05, s.overflow⟩

/-- A T-cycle of the rule's loop, on the whole state (R431). -/
def State.loopCycle (sel : Nat) (en : Bool) (t : State) : State :=
  let next := t.div + 1
  if en = true ∧ t.div.getLsbD sel = true ∧ next.getLsbD sel = false then
    if t.rawRead 0xFF05 = 0xFF then { t.rawWrite 0xFF05 0x00 with div := next, overflow := true }
    else { t.rawWrite 0xFF05 (t.rawRead 0xFF05 + 1) with div := next }
  else { t with div := next }

theorem State.timerRegs_loopCycle (sel : Nat) (en : Bool) (t : State) :
    (t.loopCycle sel en).timerRegs = timerCycle sel en t.timerRegs := by
  have written (v : Byte) (o : Bool) :
      State.timerRegs { t.rawWrite 0xFF05 v with div := t.div + 1, overflow := o } = ⟨t.div + 1, v, o⟩ := by
    show TimerRegs.mk _ ((t.rawWrite 0xFF05 v).rawRead 0xFF05) _ = _
    rw [State.rawRead_rawWrite_self]
  have regs : t.timerRegs = ⟨t.div, t.rawRead 0xFF05, t.overflow⟩ := rfl
  rw [regs]
  unfold State.loopCycle timerCycle
  simp only [Bool.and_eq_true, Bool.not_eq_true', and_assoc]
  split_ifs
  · exact written 0x00 true
  · exact written (t.rawRead 0xFF05 + 1) t.overflow
  · rfl

theorem State.rawRead_loopCycle_of_ne (sel : Nat) (en : Bool) (t : State) {x : Word} (h : x ≠ 0xFF05) :
    (t.loopCycle sel en).rawRead x = t.rawRead x := by
  have written (v : Byte) : (t.rawWrite 0xFF05 v).rawRead x = t.rawRead x := by
    rw [State.rawRead_rawWrite, if_neg h]
  unfold State.loopCycle
  simp only
  split_ifs
  · exact written 0x00
  · exact written (t.rawRead 0xFF05 + 1)
  · rfl

theorem State.timerRegs_iterate_loopCycle (sel : Nat) (en : Bool) (n : Nat) (t : State) :
    ((State.loopCycle sel en)^[n] t).timerRegs = timerCycles sel en n t.timerRegs := by
  rw [timerCycles_eq_iterate]
  exact (Function.Semiconj.iterate_right (State.timerRegs_loopCycle sel en) n).eq t

theorem State.rawRead_iterate_loopCycle_of_ne (sel : Nat) (en : Bool) (n : Nat) (t : State) {x : Word}
    (h : x ≠ 0xFF05) : ((State.loopCycle sel en)^[n] t).rawRead x = t.rawRead x := by
  induction n generalizing t with
  | zero => rfl
  | succ n ih => exact (ih _).trans (t.rawRead_loopCycle_of_ne sel en h)

/-- The model's div advance is its loop on the timer's part of the state. -/
theorem State.timerRegs_timerAdvance (s : State) (n : Nat) :
    (s.timerAdvance n).timerRegs =
      timerCycles (timerBit (s.rawRead 0xFF07)) ((s.rawRead 0xFF07).getLsbD 2) n s.timerRegs := by
  show TimerRegs.mk _ ((s.rawWrite 0xFF05 _).rawRead 0xFF05) _ = _
  rw [State.rawRead_rawWrite_self]
  rfl

/-- Settles O40: the loop on the state is the model's loop on its timer part, and leaves every byte but TIMA. -/
theorem timerFollowsLoop : Obligations.TimerFollowsLoop := by
  unfold Obligations.TimerFollowsLoop
  intro s n sel en cycle
  have hcycle : cycle = State.loopCycle (timerBit (s.rawRead 0xFF07)) en := by
    rw [timerBit_eq_getD]
    rfl
  rw [hcycle]
  have hregs : (s.timerAdvance n).timerRegs = ((State.loopCycle (timerBit (s.rawRead 0xFF07)) en)^[n] s).timerRegs :=
    (s.timerRegs_timerAdvance n).trans (State.timerRegs_iterate_loopCycle _ en n s).symm
  refine ⟨fun x => ?_, congrArg TimerRegs.div hregs, congrArg TimerRegs.overflow hregs⟩
  by_cases hx : x = 0xFF05
  · subst hx
    exact congrArg TimerRegs.tima hregs
  · rw [State.rawRead_timerAdvance_of_ne _ _ _ hx, State.rawRead_iterate_loopCycle_of_ne _ _ _ _ hx]

/-! ### Counting the falls -/

/-- The falls of bit `sel` over `n` counts from `d` on, where the timer is enabled: one for each multiple of
2^(sel + 1) passed (R434). -/
def timerFalls (sel : Nat) (en : Bool) (d n : Nat) : Nat :=
  if en then (d + n) / 2 ^ (sel + 1) - d / 2 ^ (sel + 1) else 0

theorem timerBit_mem (tac : Byte) : timerBit tac ∈ [9, 3, 5, 7] := by
  unfold timerBit
  split <;> simp

/-- A selected bit falls exactly when div reaches a multiple of twice its weight. -/
theorem bit_falls_iff {sel : Nat} (hsel : sel ∈ [9, 3, 5, 7]) (x : Word) :
    (x.getLsbD sel && !(x + 1).getLsbD sel) = true ↔ 2 ^ (sel + 1) ∣ x.toNat + 1 := by
  have hx := x.isLt
  have hnext : (x + 1).toNat = (x.toNat + 1) % 65536 := BitVec.toNat_add x 1
  simp only [Bool.and_eq_true, Bool.not_eq_true', BitVec.getLsbD, Nat.testBit_eq_decide_div_mod_eq,
    decide_eq_true_eq, decide_eq_false_iff_not, hnext]
  fin_cases hsel <;> simp only [Nat.reduceAdd, Nat.reducePow] <;> omega

theorem timerFalls_succ {sel : Nat} (hsel : sel ∈ [9, 3, 5, 7]) (en : Bool) (d : Word) (n : Nat) :
    timerFalls sel en d.toNat (n + 1) = timerFalls sel en d.toNat n +
      if (en && (d + BitVec.ofNat 16 n).getLsbD sel && !(d + BitVec.ofNat 16 n + 1).getLsbD sel) = true
      then 1 else 0 := by
  cases en with
  | false => rfl
  | true =>
    have period : 2 ^ (sel + 1) ∣ 65536 := by fin_cases hsel <;> decide
    have hdvd : 2 ^ (sel + 1) ∣ (d + BitVec.ofNat 16 n).toNat + 1 ↔ 2 ^ (sel + 1) ∣ d.toNat + n + 1 := by
      have rounds : d.toNat + n + 1 = (d.toNat + n) % 65536 + 1 + 65536 * ((d.toNat + n) / 65536) := by omega
      rw [BitVec.toNat_add, BitVec.toNat_ofNat, Nat.add_mod_mod, rounds]
      exact (Nat.dvd_add_left (period.mul_right _)).symm
    have hle : d.toNat / 2 ^ (sel + 1) ≤ (d.toNat + n) / 2 ^ (sel + 1) := Nat.div_le_div_right (by omega)
    simp only [Bool.true_and, timerFalls, if_true, bit_falls_iff hsel, hdvd, ← Nat.add_assoc, Nat.succ_div]
    omega

/-- Where TIMA stands for a count `k`, with the overflow flag for a count of 256 or more, one T-cycle adds its fall. -/
theorem timerCycle_count (sel : Nat) (en : Bool) (d : Word) (k : Nat) :
    timerCycle sel en ⟨d, BitVec.ofNat 8 k, decide (256 ≤ k)⟩ =
      let k' := k + if (en && d.getLsbD sel && !(d + 1).getLsbD sel) = true then 1 else 0
      ⟨d + 1, BitVec.ofNat 8 k', decide (256 ≤ k')⟩ := by
  have full : BitVec.ofNat 8 k = (0xFF : Byte) ↔ k % 256 = 255 := by
    rw [← BitVec.toNat_inj, BitVec.toNat_ofNat]
    rfl
  unfold timerCycle
  simp only [full]
  split_ifs with hfall hfull
  · have wraps : BitVec.ofNat 8 (k + 1) = 0x00 := by bv_omega
    have wrapped : 256 ≤ k + 1 := by omega
    simp [wraps, wrapped]
  · have sameFlag : 256 ≤ k ↔ 256 ≤ k + 1 := by omega
    simp [BitVec.ofNat_add, sameFlag]
  · rfl

/-- The timer after `n` T-cycles, from a clear overflow flag on, in closed form (R431, R434). -/
theorem timerCycles_count {sel : Nat} (hsel : sel ∈ [9, 3, 5, 7]) (en : Bool) (d : Word) (tima : Byte) (n : Nat) :
    timerCycles sel en n ⟨d, tima, false⟩ =
      let k := tima.toNat + timerFalls sel en d.toNat n
      ⟨d + BitVec.ofNat 16 n, BitVec.ofNat 8 k, decide (256 ≤ k)⟩ := by
  induction n with
  | zero =>
    have nothing : timerFalls sel en d.toNat 0 = 0 := by simp [timerFalls]
    have below : ¬ 256 ≤ tima.toNat := by omega
    simp [timerCycles, nothing, below]
  | succ n ih =>
    have next : d + BitVec.ofNat 16 n + 1 = d + BitVec.ofNat 16 (n + 1) := by bv_omega
    rw [timerCycles_succ, ih, timerCycle_count, timerFalls_succ hsel, next, Nat.add_assoc]

/-- DMA progress changes nothing that the reload reads or writes, so above OAM the two commute. -/
theorem State.rawRead_timerReload_dmaProgress (s : State) (n : Nat) {x : Word} (hx : 0xFE9F < x.toNat) :
    (s.dmaProgress n).timerReload.rawRead x = s.timerReload.rawRead x := by
  have hoverflow : (s.dmaProgress n).overflow = s.overflow := by rw [State.dmaProgress_eq]
  have aboveOam (y : Word) (hy : 0xFE9F < y.toNat) : (s.dmaProgress n).rawRead y = s.rawRead y :=
    s.rawRead_dmaProgress_of_notOam n y (by omega)
  rw [State.rawRead_timerReload, State.rawRead_timerReload, hoverflow, aboveOam x hx, aboveOam 0xFF06 (by decide),
    aboveOam 0xFF0F (by decide)]

/-- Besides DIV itself, the publication leaves the timer and every byte as the div advance leaves them (R433). -/
theorem State.rawRead_tick_of_ne_div (s : State) (n : Nat) {x : Word} (h : x ≠ 0xFF04) :
    (s.tick n).rawRead x = ((s.dmaProgress n).timerReload.timerAdvance n).rawRead x :=
  (State.rawRead_rawWrite _ _ _ _).trans (if_neg h)

/-- The timer after a whole tick: the reload clears the overflow flag, and from there on the falls count. -/
theorem State.timerRegs_tick (s : State) (n : Nat) :
    let k := (s.timerReload.rawRead 0xFF05).toNat +
      timerFalls (timerBit (s.rawRead 0xFF07)) ((s.rawRead 0xFF07).getLsbD 2) s.div.toNat n
    (s.tick n).timerRegs = ⟨s.div + BitVec.ofNat 16 n, BitVec.ofNat 8 k, decide (256 ≤ k)⟩ := by
  have hdiv : (s.dmaProgress n).timerReload.div = s.div := by rw [State.timerReload_eq, State.dmaProgress_eq]
  have htac : (s.dmaProgress n).timerReload.rawRead 0xFF07 = s.rawRead 0xFF07 := by
    rw [State.rawRead_timerReload_dmaProgress _ _ (by decide), State.rawRead_timerReload]
    simp
  have hpublish : (s.tick n).timerRegs = ((s.dmaProgress n).timerReload.timerAdvance n).timerRegs := by
    show TimerRegs.mk _ ((s.tick n).rawRead 0xFF05) _ = _
    rw [State.rawRead_tick_of_ne_div _ _ (by decide)]
    rfl
  rw [hpublish, State.timerRegs_timerAdvance, htac, State.timerRegs, hdiv, State.timerReload_overflow,
    State.rawRead_timerReload_dmaProgress _ _ (by decide)]
  exact timerCycles_count (timerBit_mem _) _ _ _ n

/-- Settles O41: the timer by `timerRegs_tick`, DIV by the publication, IF by the reload. -/
theorem tickOfTimer : Obligations.TickOfTimer := by
  unfold Obligations.TickOfTimer
  intro s n t b start falls
  have hstart : s.timerReload.rawRead 0xFF05 = start := by
    rw [State.rawRead_timerReload]
    simp [start]
  have hfalls : timerFalls (timerBit (s.rawRead 0xFF07)) ((s.rawRead 0xFF07).getLsbD 2) s.div.toNat n = falls := by
    rw [timerBit_eq_getD]
    rfl
  have hregs := s.timerRegs_tick n
  rw [hstart, hfalls] at hregs
  refine ⟨congrArg TimerRegs.div hregs, s.divShown_tick n, congrArg TimerRegs.tima hregs,
    congrArg TimerRegs.overflow hregs, ?_⟩
  rw [State.rawRead_tick_of_ne_div _ _ (by decide), State.rawRead_timerAdvance_of_ne _ _ _ (by decide),
    State.rawRead_timerReload_dmaProgress _ _ (by decide), State.rawRead_timerReload]
  simp

end Sys2Proof.Machine
end

section
/-! SUPPORT. The OAM DMA (O42, O43): a copy reads no byte that it has overwritten, since the source base is a multiple
of 256, so a transfer cut into many ticks moves the bytes that one tick would move. -/

namespace Sys2Proof.Machine

/-- The cell of OAM that byte `j` of a transfer goes to. -/
def oamCell (j : Nat) : Word := 0xFE00 + BitVec.ofNat 16 j

theorem oamCell_inj {i j : Nat} (hi : i < 160) (hj : j < 160) (h : oamCell i = oamCell j) : i = j := by
  unfold oamCell at h
  bv_omega

/-- A transfer's source meets OAM at most where it copies a byte onto itself (R443). -/
theorem oamCell_ne_source {src : Word} (hsrc : src.toNat % 256 = 0) {i j : Nat} (hi : i < 160) (hj : j < 160)
    (hij : i ≠ j) : src + BitVec.ofNat 16 j ≠ oamCell i := by
  unfold oamCell
  bv_omega

theorem rawRead_copyToOam_oamCell {src : Word} (hsrc : src.toNat % 256 = 0) {k m : Nat} (hm : k + m ≤ 160)
    (s : State) {j : Nat} (hj : j < m) :
    (copyToOam src k m s).rawRead (oamCell (k + j)) = s.rawRead (src + BitVec.ofNat 16 (k + j)) := by
  induction m generalizing k s j with
  | zero => omega
  | succ m ih =>
    rw [copyToOam]
    cases j with
    | zero =>
      rw [rawRead_copyToOam_of_ne]
      · exact s.rawRead_rawWrite_self _ _
      · intro i hi hik h
        have := oamCell_inj (by omega) (by omega) h
        omega
    | succ j =>
      have hnext : k + (j + 1) = k + 1 + j := by omega
      rw [hnext, ih (by omega) _ (by omega), State.rawRead_rawWrite, if_neg]
      exact oamCell_ne_source hsrc (by omega) (by omega) (by omega)

section
variable {s : State} {src : Word} {k res : Nat} (hs : s.dma = .active src k res)
include hs

/-- The bytes of a transfer that `n` cycles move (R441). -/
theorem State.dmaProgress_of_active (n : Nat) :
    let m := min ((res + n) / 4) (160 - k)
    s.dmaProgress n = { copyToOam src k m s with
      dma := if k + m = 160 then .inactive else .active src (k + m) ((res + n) % 4) } := by
  simp only [State.dmaProgress, hs]

theorem State.rawRead_dmaProgress_oamCell (hsrc : src.toNat % 256 = 0) (hk : k < 160) (n : Nat) {j : Nat}
    (hj : j < min ((res + n) / 4) (160 - k)) :
    (s.dmaProgress n).rawRead (oamCell (k + j)) = s.rawRead (src + BitVec.ofNat 16 (k + j)) := by
  rw [State.dmaProgress_of_active hs]
  exact rawRead_copyToOam_oamCell hsrc (by omega) s hj

theorem State.rawRead_dmaProgress_of_ne (n : Nat) {x : Word}
    (hx : ∀ j, j < min ((res + n) / 4) (160 - k) → x ≠ oamCell (k + j)) :
    (s.dmaProgress n).rawRead x = s.rawRead x := by
  rw [State.dmaProgress_of_active hs]
  refine rawRead_copyToOam_of_ne src k _ s x fun j hkj hj => ?_
  have hne := hx (j - k) (by omega)
  rwa [Nat.add_sub_cancel' hkj] at hne

end

/-- Settles O42: the fields by `dmaProgress_eq`, the bytes by what a copy reads and writes. -/
theorem dmaProgress : Obligations.DmaProgress := by
  unfold Obligations.DmaProgress
  refine ⟨fun s n hs => by simp only [State.dmaProgress, hs], ?_⟩
  intro s n k res src hs hsrc hk total m t
  refine ⟨s.dmaProgress_eq n, ?_, fun j hj => ?_, fun x hx => ?_⟩
  · exact congrArg State.dma (State.dmaProgress_of_active hs n)
  · exact State.rawRead_dmaProgress_oamCell hs hsrc hk n hj
  · exact State.rawRead_dmaProgress_of_ne hs n hx

/-! ### A transfer cut into ticks -/

/-- `s` is what `total` cycles of progress leave of a transfer that started from `src` in the state `s0`. -/
structure DmaMoved (s0 : State) (src : Word) (total : Nat) (s : State) : Prop where
  controller : s.dma = if total < 640 then .active src (total / 4) (total % 4) else .inactive
  copied : ∀ j, j < min 160 (total / 4) → s.rawRead (oamCell j) = s0.rawRead (src + BitVec.ofNat 16 j)
  others : ∀ x, (∀ j, j < min 160 (total / 4) → x ≠ oamCell j) → s.rawRead x = s0.rawRead x

section
variable {s0 s : State} {src : Word} (hsrc : src.toNat % 256 = 0)
include hsrc

theorem DmaMoved.progress {total : Nat} (h : DmaMoved s0 src total s) (n : Nat) :
    DmaMoved s0 src (total + n) (s.dmaProgress n) := by
  obtain ⟨controller, copied, others⟩ := h
  by_cases hactive : total < 640
  · rw [if_pos hactive] at controller
    have hk : total / 4 < 160 := by omega
    have hmoved : total / 4 + min ((total % 4 + n) / 4) (160 - total / 4) = min 160 ((total + n) / 4) := by omega
    refine ⟨?_, fun j hj => ?_, fun x hx => ?_⟩
    · have hresidue : (total % 4 + n) % 4 = (total + n) % 4 := by omega
      rw [State.dmaProgress_of_active controller]
      simp only [hmoved, hresidue]
      by_cases hmore : total + n < 640
      · have hcount : min 160 ((total + n) / 4) = (total + n) / 4 := by omega
        rw [if_pos hmore, hcount, if_neg (by omega)]
      · rw [if_neg hmore, if_pos (by omega)]
    · by_cases hnew : total / 4 ≤ j
      · obtain ⟨i, rfl⟩ := Nat.exists_eq_add_of_le hnew
        rw [State.rawRead_dmaProgress_oamCell controller hsrc hk n (by omega)]
        exact others _ fun i' hi' => oamCell_ne_source hsrc (by omega) (by omega) (by omega)
      · rw [State.rawRead_dmaProgress_of_ne controller]
        · exact copied j (by omega)
        · intro i hi h
          have := oamCell_inj (by omega) (by omega) h
          omega
    · rw [State.rawRead_dmaProgress_of_ne controller, others x]
      · exact fun j hj => hx j (by omega)
      · exact fun j hj => hx _ (by omega)
  · rw [if_neg hactive] at controller
    have hstill : s.dmaProgress n = s := by simp only [State.dmaProgress, controller]
    have hsame : min 160 ((total + n) / 4) = min 160 (total / 4) := by omega
    rw [hstill]
    exact ⟨by rw [controller, if_neg (by omega)], hsame ▸ copied, hsame ▸ others⟩

theorem DmaMoved.foldl {total : Nat} (h : DmaMoved s0 src total s) (counts : List Nat) :
    DmaMoved s0 src (total + counts.sum) (counts.foldl State.dmaProgress s) := by
  induction counts generalizing total s with
  | nil => exact h
  | cons n counts ih =>
    rw [List.sum_cons, ← Nat.add_assoc]
    exact ih (h.progress hsrc n)

end

/-- Settles O43: a transfer just started has moved nothing, and each tick adds its cycles. -/
theorem dmaTakes640Cycles : Obligations.DmaTakes640Cycles := by
  unfold Obligations.DmaTakes640Cycles
  intro s src counts hs hsrc t copied
  have started : DmaMoved s src 0 s := ⟨hs, fun j hj => by omega, fun _ _ => rfl⟩
  obtain ⟨controller, moved, -⟩ := started.foldl hsrc counts
  rw [Nat.zero_add] at controller moved
  exact ⟨controller, moved⟩

end Sys2Proof.Machine
end

section
/-! SUPPORT. What the PPU draws (O44 to O48): the model's addresses as numbers are the 16-bit addresses of the rules. -/

namespace Sys2Proof.Machine

/-- A byte at an address given as a number is the byte at that 16-bit address. -/
theorem State.rawRead_eq_rawAt (s : State) {x : Word} {a : Nat} (h : x.toNat = a) : s.rawRead x = s.rawAt a :=
  congrArg (Memory.read s.mem) h

theorem State.rawRead_ofNat (s : State) {a : Nat} (ha : a < 0x10000) : s.rawRead (BitVec.ofNat 16 a) = s.rawAt a :=
  s.rawRead_eq_rawAt (by rw [BitVec.toNat_ofNat]; omega)

/-! ### The sprite scan -/

/-- The scan with room for `room` sprites is the first `room` entries that are on the line (R451). -/
theorem scanEntries_eq_take_filter (s : State) (line height : Nat) (entries : List Nat) (room : Nat) :
    scanEntries s line height entries room =
      ((entries.map s.oamEntry).filter (spriteOnLine · line height)).take room := by
  induction entries generalizing room with
  | nil => simp [scanEntries]
  | cons i entries ih =>
    cases room with
    | zero => simp [scanEntries]
    | succ room =>
      simp only [scanEntries, List.map_cons, List.filter_cons, ih]
      split <;> simp

/-- Settles O44: the model's entries are read at numbers, and its test is the statement's. -/
theorem spriteScan : Obligations.SpriteScan := by
  unfold Obligations.SpriteScan
  intro s line height entry
  have hentry : ∀ i ∈ List.range 40, s.oamEntry i = entry i := by
    intro i hi
    have hlt : i < 40 := List.mem_range.mp hi
    simp only [State.oamEntry, entry]
    rw [State.rawRead_ofNat _ (by omega), State.rawRead_ofNat _ (by omega), State.rawRead_ofNat _ (by omega),
      State.rawRead_ofNat _ (by omega)]
  have hon : ∀ e : Sprite, spriteOnLine e line height =
      decide (e.x ≠ 0 ∧ e.y.toNat ≤ line ∧ line < e.y.toNat + height) := by
    intro e
    rw [Bool.eq_iff_iff]
    simp [spriteOnLine]
  rw [State.spriteScan, scanEntries_eq_take_filter, List.map_congr_left hentry]
  simp only [← hon]
  rfl

/-! ### Tiles -/

/-- Tile data by 16-bit arithmetic: unsigned from 0x8000, or signed from 0x9000 (R452). -/
def tileWord (lcdc t : Byte) : Word :=
  if lcdc.getLsbD 4 then 0x8000 + 16 * t.setWidth 16 else 0x9000 + 16 * t.signExtend 16

theorem toNat_tileWord (lcdc t : Byte) : (tileWord lcdc t).toNat = tileBase lcdc t := by
  have ht := t.isLt
  have hsext : t.signExtend 16 = sext16 t := rfl
  unfold tileWord tileBase
  rw [hsext, sext16_eq]
  split_ifs <;> bv_omega

/-- A colour index as the statements compute it, from the two plane bytes of a row (R452). -/
def State.wordIndex (s : State) (address : Word) (k : Nat) : Nat :=
  2 * ((s.rawRead (address + 1)).getLsbD k).toNat + ((s.rawRead address).getLsbD k).toNat

theorem State.wordIndex_eq (s : State) {address : Word} {a : Nat} (h : address.toNat = a) (ha : a < 0xFFFF) (k : Nat) :
    s.wordIndex address k = 2 * bitNat (s.rawAt (a + 1)) k + bitNat (s.rawAt a) k := by
  have hnext : (address + 1).toNat = a + 1 := by bv_omega
  rw [State.wordIndex, s.rawRead_eq_rawAt h, s.rawRead_eq_rawAt hnext]
  rfl

/-- The colour index at a pixel of a map, by 16-bit addresses (R452). -/
theorem State.mapIndex_eq_wordIndex (s : State) {mapCell : Word} {map px py : Nat}
    (hcell : mapCell.toNat = map + 32 * (py / 8) + px / 8) :
    s.mapIndex map px py =
      s.wordIndex (tileWord s.lcdc (s.rawRead mapCell) + BitVec.ofNat 16 (2 * (py % 8))) (7 - px % 8) := by
  have htile := tileBase_add_le s.lcdc (s.rawRead mapCell)
  have hrow : (tileWord s.lcdc (s.rawRead mapCell) + BitVec.ofNat 16 (2 * (py % 8))).toNat =
      tileBase s.lcdc (s.rawRead mapCell) + 2 * (py % 8) := by
    rw [BitVec.toNat_add, toNat_tileWord, BitVec.toNat_ofNat]
    omega
  rw [State.wordIndex_eq s hrow (by omega), s.rawRead_eq_rawAt hcell]
  rfl

/-! ### The row -/

theorem State.drawnLine_of_off {s : State} (h : s.lcdc.getLsbD 7 = false) :
    s.drawnLine = ⟨List.replicate 160 0, []⟩ := by
  rw [State.drawnLine, h]
  rfl

theorem State.drawnLine_of_on {s : State} (h : s.lcdc.getLsbD 7 = true) :
    s.drawnLine = ⟨s.scanRow s.spriteScan, s.spriteScan⟩ := by
  rw [State.drawnLine, h]
  rfl

theorem State.scanRow_getElem? (s : State) (sprites : List Sprite) {x : Nat} (hx : x < 160) :
    (s.scanRow sprites)[x]? =
      some (if s.cfg.composeObjWin then s.composedShade sprites x else s.bgShade x) := by
  simp [State.scanRow, hx]

/-- A pixel of an enabled line without the composition (R453, R456). -/
theorem State.row_of_plain {s : State} (hon : s.lcdc.getLsbD 7 = true) (hplain : s.cfg.composeObjWin = false)
    {x : Nat} (hx : x < 160) : s.drawnLine.row[x]? = some (s.bgShade x) := by
  rw [State.drawnLine_of_on hon, State.scanRow_getElem? _ _ hx, hplain]
  rfl

/-- A pixel of an enabled line with the composition (R456). -/
theorem State.row_of_composed {s : State} (hon : s.lcdc.getLsbD 7 = true) (hcompose : s.cfg.composeObjWin = true)
    {x : Nat} (hx : x < 160) : s.drawnLine.row[x]? = some (s.composedShade s.spriteScan x) := by
  rw [State.drawnLine_of_on hon, State.scanRow_getElem? _ _ hx, hcompose]
  rfl

/-- With the sprites off a composed pixel is the layer's (R457). -/
theorem State.composedShade_of_objOff {s : State} (h : s.lcdc.getLsbD 1 = false) (sprites : List Sprite) (x : Nat) :
    s.composedShade sprites x = shadeOf (s.rawRead 0xFF47) (s.layerIndex x) := by
  rw [State.composedShade, h]
  rfl

theorem State.composedShade_of_objOn {s : State} (h : s.lcdc.getLsbD 1 = true) (sprites : List Sprite) (x : Nat) :
    s.composedShade sprites x = (s.spriteShade x (s.layerIndex x) (candidates x sprites)).getD
      (shadeOf (s.rawRead 0xFF47) (s.layerIndex x)) := by
  rw [State.composedShade, h]
  rfl

/-- Settles O45: the background index by `mapIndex_eq_wordIndex`. -/
theorem backgroundRow : Obligations.BackgroundRow := by
  unfold Obligations.BackgroundRow
  intro s lcdc index
  refine ⟨State.drawnLine_of_off, fun hon => ⟨?_, ?_, fun hplain x hx => ?_⟩⟩
  · rw [State.drawnLine_of_on hon]
  · rw [State.drawnLine_of_on hon]
    simp [State.scanRow]
  · have hindex : s.bgIndex x = index x := by
      refine State.mapIndex_eq_wordIndex s ?_
      have hmap : (if lcdc.getLsbD 3 then (0x9C00 : Word) else 0x9800).toNat = mapBase (lcdc.getLsbD 3) := by
        cases lcdc.getLsbD 3 <;> rfl
      have hle := mapBase_le (lcdc.getLsbD 3)
      rw [BitVec.toNat_add, hmap, BitVec.toNat_ofNat]
      show _ = mapBase (lcdc.getLsbD 3) + _ + _
      omega
    rw [State.row_of_plain hon hplain hx, State.bgShade, hindex]
    rfl

/-- Where the window covers the pixel the layer is the window's, else the background's (R457). -/
theorem State.layerIndex_eq (s : State) (x : Nat) :
    s.layerIndex x =
      if s.lcdc.getLsbD 0 = false then 0
      else if s.lcdc.getLsbD 5 = true ∧ (s.rawRead 0xFF4A).toNat ≤ (s.rawRead 0xFF44).toNat ∧
          (s.rawRead 0xFF4B).toNat ≤ x + 7 then
        s.mapIndex (mapBase (s.lcdc.getLsbD 6)) (x + 7 - (s.rawRead 0xFF4B).toNat)
          ((s.rawRead 0xFF44).toNat - (s.rawRead 0xFF4A).toNat)
      else
        s.mapIndex (mapBase (s.lcdc.getLsbD 3)) (((s.rawRead 0xFF43).toNat + x) % 256)
          (((s.rawRead 0xFF42).toNat + (s.rawRead 0xFF44).toNat) % 256) := by
  simp only [State.layerIndex, State.bgIndex, Bool.not_eq_true', Bool.and_eq_true, decide_eq_true_eq]

/-- Settles O46: window and background by `mapIndex_eq_wordIndex`. -/
theorem windowLayer : Obligations.WindowLayer := by
  unfold Obligations.WindowLayer
  intro s x hx lcdc ly wy wx at' index
  have hat (second : Bool) {px py : Nat} (hpx : px < 256) (hpy : py < 256) :
      s.mapIndex (mapBase second) px py = at' (mapBase second) px py := by
    have hmap := mapBase_le second
    refine State.mapIndex_eq_wordIndex s ?_
    rw [BitVec.toNat_ofNat]
    omega
  have hly : ly < 256 := (s.rawRead 0xFF44).isLt
  have hindex : s.layerIndex x = index := by
    rw [State.layerIndex_eq, hat _ (by omega) (by omega), hat _ (by omega) (by omega)]
    rfl
  refine ⟨hindex, fun hcompose hon hobj => ?_⟩
  rw [State.row_of_composed hon hcompose hx, State.composedShade_of_objOff hobj, ← hindex]
  rfl

/-! ### Sprites at a pixel -/

/-- The order of the candidates: by X, compared as a number (R458). -/
abbrev xLe (p q : Sprite) : Prop := p.x.toNat ≤ q.x.toNat

theorem xLe_total : Std.Total xLe := ⟨fun p q => Nat.le_total p.x.toNat q.x.toNat⟩

theorem xLe_trans : IsTrans Sprite xLe := ⟨fun _ _ _ => Nat.le_trans⟩

/-- The model's sort is the library's insertion sort. -/
theorem sortByX_eq_insertionSort (sprites : List Sprite) : sortByX sprites = sprites.insertionSort xLe := by
  have hinsert (sp : Sprite) (l : List Sprite) : insertByX sp l = l.orderedInsert xLe sp := by
    induction l with
    | nil => rfl
    | cons q rest ih => rw [insertByX, List.orderedInsert_cons, ih]
  induction sprites with
  | nil => rfl
  | cons sp rest ih =>
    rw [List.insertionSort_cons, ← ih, ← hinsert]
    rfl

/-- The sort keeps the order of the sprites that share an X: they are a sorted sublist before and after. -/
theorem filter_sortByX (sprites : List Sprite) (v : Byte) :
    (sortByX sprites).filter (fun e => e.x == v) = sprites.filter (fun e => e.x == v) := by
  have hsame : (sprites.filter fun e => e.x == v).Pairwise xLe := by
    refine List.pairwise_of_forall_mem_list fun p hp q hq => ?_
    have hpx : p.x = v := by simpa using (List.mem_filter.mp hp).2
    have hqx : q.x = v := by simpa using (List.mem_filter.mp hq).2
    rw [xLe, hpx, hqx]
  have := xLe_total
  have := xLe_trans
  rw [sortByX_eq_insertionSort]
  have hsub := (List.sublist_insertionSort hsame List.filter_sublist).filter (fun e => e.x == v)
  rw [List.filter_filter] at hsub
  simp only [Bool.and_self] at hsub
  exact (hsub.eq_of_length ((List.perm_insertionSort xLe sprites).filter _).length_eq.symm).symm

/-- Settles O47: the model's sort is a stable insertion sort. -/
theorem spritePriority : Obligations.SpritePriority := by
  unfold Obligations.SpritePriority
  intro x sprites covering
  have := xLe_total
  have := xLe_trans
  have hsorted : candidates x sprites = covering.insertionSort xLe := sortByX_eq_insertionSort covering
  refine ⟨?_, ?_, filter_sortByX covering⟩
  · rw [hsorted]
    exact List.perm_insertionSort xLe covering
  · rw [hsorted]
    exact List.pairwise_insertionSort xLe covering

theorem spriteHeight_le (lcdc : Byte) : spriteHeight lcdc ≤ 16 := by
  unfold spriteHeight
  split <;> omega

theorem Config.spriteY_le (g : Config) : Config.spriteY g ≤ 16 := by
  unfold Config.spriteY
  split <;> omega

/-- The colour index of a sprite at a pixel, by 16-bit addresses (R458). -/
theorem State.spriteIndex_eq_wordIndex (s : State) (x : Nat) (e : Sprite) :
    let height := spriteHeight s.lcdc
    let line := (s.rawRead 0xFF44).toNat + Config.spriteY s.cfg
    let row := if e.attributes.getLsbD 6 then height - 1 - (line - e.y.toNat) else line - e.y.toNat
    let tile := if height = 16 then e.tileIndex &&& 0xFE else e.tileIndex
    let col := if e.attributes.getLsbD 5 then 7 - (x + 8 - e.x.toNat) else x + 8 - e.x.toNat
    s.spriteIndex x e = s.wordIndex (0x8000 + 16 * tile.setWidth 16 + BitVec.ofNat 16 (2 * row)) (7 - col) := by
  intro height line row tile col
  have htile : (if height = 16 then (e.tileIndex &&& 0xFE).toNat else e.tileIndex.toNat) = tile.toNat :=
    (apply_ite BitVec.toNat _ _ _).symm
  have hline : line ≤ 271 := by
    have := (s.rawRead 0xFF44).isLt
    have := Config.spriteY_le s.cfg
    omega
  have hrow : row ≤ 271 := by
    have := spriteHeight_le s.lcdc
    simp only [row]
    split_ifs <;> omega
  have htile_lt := tile.isLt
  have haddress : (0x8000 + 16 * tile.setWidth 16 + BitVec.ofNat 16 (2 * row)).toNat =
      0x8000 + 16 * tile.toNat + 2 * row := by bv_omega
  rw [State.wordIndex_eq s haddress (by omega), ← htile]
  rfl

/-- Transparent candidates leave the pixel to those after them (R458). -/
theorem State.spriteShade_append {s : State} {x : Nat} (layer : Nat) {before : List Sprite}
    (h : ∀ b ∈ before, s.spriteIndex x b = 0) (after : List Sprite) :
    s.spriteShade x layer (before ++ after) = s.spriteShade x layer after := by
  induction before with
  | nil => rfl
  | cons b before ih =>
    obtain ⟨hb, hbefore⟩ := List.forall_mem_cons.mp h
    rw [List.cons_append, State.spriteShade, if_pos hb, ih hbefore]

/-- Settles O48: transparent candidates are passed over, and the first other one decides. -/
theorem spritePixel : Obligations.SpritePixel := by
  unfold Obligations.SpritePixel
  intro s x hx hcompose hon hobj height line index shade layer
  have hindex (e : Sprite) : index e = s.spriteIndex x e := (s.spriteIndex_eq_wordIndex x e).symm
  have hpixel (o : Option (BitVec 2)) (ho : s.spriteShade x layer (candidates x s.spriteScan) = o) :
      s.drawnLine.row[x]? = some (o.getD (shade (s.rawRead 0xFF47) layer)) := by
    rw [State.row_of_composed hon hcompose hx, State.composedShade_of_objOn hobj, ho]
    rfl
  refine ⟨fun hall => ?_, fun before e after hsplit hbefore he => ?_⟩
  · refine hpixel none ?_
    have hnone := State.spriteShade_append (s := s) (x := x) layer (fun b hb => (hindex b).symm.trans (hall b hb)) []
    rwa [List.append_nil] at hnone
  · rw [hindex] at he
    have hshade : s.spriteShade x layer (candidates x s.spriteScan) =
        if e.attributes.getLsbD 7 && decide (layer ≠ 0) then none
        else some (shadeOf (if e.attributes.getLsbD 4 then s.rawRead 0xFF49 else s.rawRead 0xFF48)
          (s.spriteIndex x e)) := by
      rw [hsplit, State.spriteShade_append layer (fun b hb => (hindex b).symm.trans (hbefore b hb)),
        State.spriteShade, if_neg he]
    rw [hpixel _ hshade, hindex]
    simp only [Bool.and_eq_true, decide_eq_true_eq]
    split <;> rfl

end Sys2Proof.Machine
end

section
/-! SUPPORT. What the PPU writes and what it depends on (O49, O50). -/

namespace Sys2Proof.Machine

/-! ### The bytes after an enabled line -/

theorem State.afterDraw_of_off {s : State} (h : s.lcdc.getLsbD 7 = false) : s.afterDraw = s := by
  rw [State.afterDraw, h]
  rfl

theorem State.afterDraw_of_on {s : State} (h : s.lcdc.getLsbD 7 = true) : s.afterDraw = s.coincidence.vblank := by
  rw [State.afterDraw, h]
  rfl

/-- The coincidence bit of STAT (R454). -/
theorem State.rawRead_coincidence_stat (s : State) :
    s.coincidence.rawRead 0xFF41 =
      if s.rawRead 0xFF44 = s.rawRead 0xFF45 then s.rawRead 0xFF41 ||| 0x04 else s.rawRead 0xFF41 &&& 0xFB := by
  unfold State.coincidence
  split <;> simp [State.rawRead_rawWrite]

/-- The STAT request (R454). -/
theorem State.rawRead_coincidence_if (s : State) :
    s.coincidence.rawRead 0xFF0F =
      s.rawRead 0xFF0F ||| (if s.rawRead 0xFF44 = s.rawRead 0xFF45 then 0x02 else 0x00) := by
  unfold State.coincidence
  split <;> simp [State.rawRead_rawWrite]

/-- The VBlank request (R455). -/
theorem State.rawRead_vblank_if (s : State) :
    s.vblank.rawRead 0xFF0F =
      s.rawRead 0xFF0F ||| (if s.cfg.vblankIrq = true ∧ s.rawRead 0xFF44 = 144 then 0x01 else 0x00) := by
  unfold State.vblank
  simp only [Bool.and_eq_true, beq_iff_eq]
  split <;> simp

/-- Settles O49: the VBlank request follows the coincidence check, which leaves LY. -/
theorem coincidenceAndVblank : Obligations.CoincidenceAndVblank := by
  unfold Obligations.CoincidenceAndVblank
  intro s t same requests
  refine ⟨State.afterDraw_of_off, fun hon => ⟨s.afterDraw_eq, ?_, ?_, fun x => s.rawRead_afterDraw_of_ne x⟩⟩
  · show s.afterDraw.rawRead 0xFF41 = _
    rw [State.afterDraw_of_on hon, State.rawRead_vblank_of_ne _ _ (by decide), State.rawRead_coincidence_stat]
  · have hcfg : s.coincidence.cfg = s.cfg := by rw [State.coincidence_eq]
    have hly : s.coincidence.rawRead 0xFF44 = s.rawRead 0xFF44 :=
      s.rawRead_coincidence_of_ne _ (by decide) (by decide)
    show s.afterDraw.rawRead 0xFF0F = _
    rw [State.afterDraw_of_on hon, State.rawRead_vblank_if, State.rawRead_coincidence_if, hcfg, hly, BitVec.or_assoc]

/-! ### The bits that no line changes -/

/-- Of STAT a line changes bit 2 alone (R459). -/
theorem State.getLsbD_afterDraw_stat (s : State) {k : Nat} (hk : k < 8) (h2 : k ≠ 2) :
    (s.afterDraw.rawRead 0xFF41).getLsbD k = (s.rawRead 0xFF41).getLsbD k := by
  cases hon : s.lcdc.getLsbD 7 with
  | false => rw [State.afterDraw_of_off hon]
  | true =>
    have set : ∀ k < 8, k ≠ 2 → (0x04 : Byte).getLsbD k = false := by decide
    have cleared : ∀ k < 8, k ≠ 2 → (0xFB : Byte).getLsbD k = true := by decide
    rw [State.afterDraw_of_on hon, State.rawRead_vblank_of_ne _ _ (by decide), State.rawRead_coincidence_stat]
    split
    · rw [BitVec.getLsbD_or, set k hk h2, Bool.or_false]
    · rw [BitVec.getLsbD_and, cleared k hk h2, Bool.and_true]

/-- Of IF a line changes bits 0 and 1 alone (R459). -/
theorem State.getLsbD_afterDraw_if (s : State) {k : Nat} (hk : k < 8) (h0 : k ≠ 0) (h1 : k ≠ 1) :
    (s.afterDraw.rawRead 0xFF0F).getLsbD k = (s.rawRead 0xFF0F).getLsbD k := by
  cases hon : s.lcdc.getLsbD 7 with
  | false => rw [State.afterDraw_of_off hon]
  | true =>
    have stat (c : Prop) [Decidable c] : (if c then 0x02 else 0x00 : Byte).getLsbD k = false := by
      have table : ∀ k < 8, k ≠ 1 → (0x02 : Byte).getLsbD k = false := by decide
      split
      · exact table k hk h1
      · exact BitVec.getLsbD_zero
    have vblank (c : Prop) [Decidable c] : (if c then 0x01 else 0x00 : Byte).getLsbD k = false := by
      have table : ∀ k < 8, k ≠ 0 → (0x01 : Byte).getLsbD k = false := by decide
      split
      · exact table k hk h0
      · exact BitVec.getLsbD_zero
    rw [State.afterDraw_of_on hon, State.rawRead_vblank_if, State.rawRead_coincidence_if, BitVec.getLsbD_or,
      BitVec.getLsbD_or, stat, vblank, Bool.or_false, Bool.or_false]

/-! ### What a line depends on -/

section
variable {s u : State} (hmem : s.mem = u.mem)
include hmem

theorem State.rawAt_congr (a : Nat) : s.rawAt a = u.rawAt a := congrArg (Memory.read · a) hmem

theorem State.lcdc_congr : s.lcdc = u.lcdc := State.rawRead_congr hmem _

theorem State.mapIndex_congr (map px py : Nat) : s.mapIndex map px py = u.mapIndex map px py := by
  simp only [State.mapIndex, State.rawAt_congr hmem, State.lcdc_congr hmem]

theorem State.bgShade_congr (x : Nat) : s.bgShade x = u.bgShade x := by
  simp only [State.bgShade, State.bgIndex, State.rawRead_congr hmem, State.lcdc_congr hmem, State.mapIndex_congr hmem]

theorem State.layerIndex_congr (x : Nat) : s.layerIndex x = u.layerIndex x := by
  simp only [State.layerIndex_eq, State.rawRead_congr hmem, State.lcdc_congr hmem, State.mapIndex_congr hmem]

theorem State.coincidence_mem_congr : s.coincidence.mem = u.coincidence.mem := by
  unfold State.coincidence
  simp only [State.rawRead_congr hmem]
  split <;> simp [State.rawRead_rawWrite, State.rawRead_congr hmem, hmem]

variable (hcfg : s.cfg = u.cfg)
include hcfg

theorem State.spriteScan_congr : s.spriteScan = u.spriteScan := by
  have same : SameForPlainPpu s u :=
    ⟨hcfg, fun x _ => State.rawRead_congr hmem x, fun _ _ => by rw [State.lcdc_congr hmem]⟩
  exact same.spriteScan

theorem State.spriteIndex_congr (x : Nat) (e : Sprite) : s.spriteIndex x e = u.spriteIndex x e := by
  simp only [State.spriteIndex, State.rawRead_congr hmem, State.rawAt_congr hmem, State.lcdc_congr hmem, hcfg]

theorem State.spriteShade_congr (x layer : Nat) (sprites : List Sprite) :
    s.spriteShade x layer sprites = u.spriteShade x layer sprites := by
  induction sprites with
  | nil => rfl
  | cons e rest ih =>
    simp only [State.spriteShade, ih, State.spriteIndex_congr hmem hcfg, State.rawRead_congr hmem]

theorem State.composedShade_congr (sprites : List Sprite) (x : Nat) :
    s.composedShade sprites x = u.composedShade sprites x := by
  simp only [State.composedShade, State.layerIndex_congr hmem, State.rawRead_congr hmem, State.lcdc_congr hmem,
    State.spriteShade_congr hmem hcfg]

/-- A line is drawn from memory and the parameters alone (R459). -/
theorem State.drawnLine_congr : s.drawnLine = u.drawnLine := by
  have hrow (sprites : List Sprite) : s.scanRow sprites = u.scanRow sprites := by
    simp only [State.scanRow, hcfg, State.composedShade_congr hmem hcfg, State.bgShade_congr hmem]
  rw [State.drawnLine, State.drawnLine, State.lcdc_congr hmem, State.spriteScan_congr hmem hcfg, hrow]

theorem State.vblank_mem_congr : s.vblank.mem = u.vblank.mem := by
  unfold State.vblank
  rw [hcfg, State.rawRead_congr hmem, State.rawRead_congr hmem]
  split <;> simp [hmem]

/-- What a line leaves in memory depends on memory and the parameters alone (R459). -/
theorem State.afterDraw_mem_congr : s.afterDraw.mem = u.afterDraw.mem := by
  have hcfg' : s.coincidence.cfg = u.coincidence.cfg := by rwa [State.coincidence_eq s, State.coincidence_eq u]
  unfold State.afterDraw
  rw [State.lcdc_congr hmem]
  split
  · exact State.vblank_mem_congr (State.coincidence_mem_congr hmem) hcfg'
  · exact hmem

end

/-- Settles O50: the fields and the other bytes by the frame of a line. -/
theorem ppuWritesOnly : Obligations.PpuWritesOnly := by
  unfold Obligations.PpuWritesOnly
  refine ⟨fun s t hp h => ?_, fun s u hmem hcfg =>
    ⟨State.drawnLine_congr hmem hcfg, State.afterDraw_mem_congr hmem hcfg⟩⟩
  have ht : t = s.drawTransition := by
    obtain ⟨-, ⟨hp', -⟩ | ⟨hp', -⟩ | ⟨hp', -⟩ | ⟨-, ht⟩⟩ := step_cases h
    · simp [hp] at hp'
    · simp [hp] at hp'
    · simp [hp] at hp'
    · exact ht
  have hread (x : Word) : t.rawRead x = s.afterDraw.rawRead x := by rw [ht]; rfl
  refine ⟨?_, fun x h1 h2 => ?_, fun k hk h2 => ?_, fun k hk h0 h1 => ?_⟩
  · rw [ht]
    unfold State.drawTransition
    rw [State.afterDraw_eq]
  · rw [hread, State.rawRead_afterDraw_of_ne _ _ h1 h2]
  · rw [hread, State.getLsbD_afterDraw_stat _ hk h2]
  · rw [hread, State.getLsbD_afterDraw_if _ hk h0 h1]

end Sys2Proof.Machine
end

section
/-! SUPPORT. The interrupt enable is not read (O33): each operation of the model acts on a state with another `ime` as
it does on the state itself, and leaves `ime` alone or sets it. -/

namespace Sys2Proof.Machine

/-- The state with another `ime`. -/
def State.withIme (s : State) (b : Bool) : State := { s with ime := b }

section
variable (s : State) (b : Bool)

/-! ### What is read -/

@[simp] theorem State.withIme_a : (s.withIme b).a = s.a := rfl
@[simp] theorem State.withIme_c : (s.withIme b).c = s.c := rfl
@[simp] theorem State.withIme_f : (s.withIme b).f = s.f := rfl
@[simp] theorem State.withIme_sp : (s.withIme b).sp = s.sp := rfl
@[simp] theorem State.withIme_pc : (s.withIme b).pc = s.pc := rfl
@[simp] theorem State.withIme_cfg : (s.withIme b).cfg = s.cfg := rfl
@[simp] theorem State.withIme_bc : (s.withIme b).bc = s.bc := rfl
@[simp] theorem State.withIme_de : (s.withIme b).de = s.de := rfl
@[simp] theorem State.withIme_hl : (s.withIme b).hl = s.hl := rfl
@[simp] theorem State.withIme_atHl : (s.withIme b).atHl = s.atHl := rfl
@[simp] theorem State.memRead_withIme (x : Word) : (s.withIme b).memRead x = s.memRead x := rfl
@[simp] theorem State.popWord_withIme : (s.withIme b).popWord = s.popWord := rfl
@[simp] theorem State.reg_withIme (r : Reg8) : (s.withIme b).reg r = s.reg r := by cases r <;> rfl
@[simp] theorem State.pair_withIme (p : Pair) : (s.withIme b).pair p = s.pair p := by cases p <;> rfl
@[simp] theorem State.stackPair_withIme (q : StackPair) : (s.withIme b).stackPair q = s.stackPair q := by
  cases q <;> rfl
@[simp] theorem State.cond_withIme (cc : Cond) : (s.withIme b).cond cc = s.cond cc := by cases cc <;> rfl

/-! ### What is written -/

@[simp] theorem State.setReg_withIme (r : Reg8) (v : Byte) :
    (s.withIme b).setReg r v = (s.setReg r v).withIme b := by cases r <;> rfl
@[simp] theorem State.setPair_withIme (p : Pair) (v : Word) :
    (s.withIme b).setPair p v = (s.setPair p v).withIme b := by cases p <;> rfl
@[simp] theorem State.setStackPair_withIme (q : StackPair) (v : Word) :
    (s.withIme b).setStackPair q v = (s.setStackPair q v).withIme b := by cases q <;> rfl
@[simp] theorem State.setHl_withIme (v : Word) : (s.withIme b).setHl v = (s.setHl v).withIme b := rfl
@[simp] theorem State.hlIncremented_withIme : (s.withIme b).hlIncremented = s.hlIncremented.withIme b := rfl
@[simp] theorem State.hlDecremented_withIme : (s.withIme b).hlDecremented = s.hlDecremented.withIme b := rfl
@[simp] theorem State.setFlags_withIme (f : Flags) : (s.withIme b).setFlags f = (s.setFlags f).withIme b := rfl
@[simp] theorem State.setPc_withIme (x : Word) : (s.withIme b).setPc x = (s.setPc x).withIme b := rfl
@[simp] theorem State.jumpRelative_withIme (e : Byte) :
    (s.withIme b).jumpRelative e = (s.jumpRelative e).withIme b := rfl
@[simp] theorem State.returns_withIme (n : Nat) : (s.withIme b).returns n = (s.returns n).withIme b := rfl
@[simp] theorem State.popped_withIme : (s.withIme b).popped = s.popped.withIme b := rfl
@[simp] theorem State.scheduleIme_withIme (v : Bool) :
    (s.withIme b).scheduleIme v = (s.scheduleIme v).withIme b := rfl
@[simp] theorem State.raise_withIme (r : ErrorRecord) : (s.withIme b).raise r = (s.raise r).withIme b := rfl
@[simp] theorem State.memWrite_withIme (x : Word) (v : Byte) :
    (s.withIme b).memWrite x v = (s.memWrite x v).withIme b := by
  unfold State.memWrite
  split_ifs <;> rfl
@[simp] theorem State.setAtHl_withIme (v : Byte) : (s.withIme b).setAtHl v = (s.setAtHl v).withIme b :=
  s.memWrite_withIme b s.hl v
@[simp] theorem State.push16_withIme (v : Word) : (s.withIme b).push16 v = (s.push16 v).withIme b := by
  simp only [State.push16_eq, State.withIme_sp, State.memWrite_withIme]
  rfl

end

/-! ### The CPU step -/

/-- DI and RETI set `ime` or leave it, without reading it (R412). -/
theorem State.scheduleImeTimed_withIme (s : State) (b v : Bool) :
    ∃ b', (s.withIme b).scheduleImeTimed v = (s.scheduleImeTimed v).withIme b' := by
  cases hcfg : s.cfg.imeTiming with
  | doc => exact ⟨b, by simp [State.scheduleImeTimed, hcfg]⟩
  | hw => exact ⟨v, by simp only [State.scheduleImeTimed, State.withIme_cfg, hcfg]; rfl⟩

theorem execForm_withIme {f : Form} {s t : State} (h : execForm f s = .next t) (b : Bool) :
    ∃ b', execForm f (s.withIme b) = .next (t.withIme b') := by
  cases f
  case di =>
    cases h
    obtain ⟨b', hb⟩ := s.scheduleImeTimed_withIme b false
    exact ⟨b', by simp [execForm, execDi, hb]⟩
  case reti =>
    cases h
    obtain ⟨b', hb⟩ := (s.popped.setPc s.popWord).scheduleImeTimed_withIme b true
    exact ⟨b', by simp [execForm, execReti, hb]⟩
  case ldSpHl | addSpE | halt | stop =>
    cases h
    exact ⟨b, rfl⟩
  case jpCc | jrCc | callCc | retCc =>
    refine ⟨b, ?_⟩
    simp only [execForm, jumpIf, jumpRelIf, callIf, callTo, retIf, State.cond_withIme] at h ⊢
    split at h
    all_goals
      cases h
      simp [*]
  all_goals
    cases h
    refine ⟨b, ?_⟩
    show Host.Outcome.next _ = _
    simp

/-- The end of a step leaves `ime` or sets it to the scheduled value (R411). -/
theorem State.endStep_withIme (s : State) (b : Bool) : ∃ b', (s.withIme b).endStep = s.endStep.withIme b' := by
  unfold State.endStep
  by_cases hwrote : s.wroteSchedule = true
  · rw [if_pos hwrote, if_pos (by exact hwrote)]
    exact ⟨b, rfl⟩
  · rw [if_neg hwrote, if_neg (by exact hwrote)]
    exact ⟨s.scheduledIme, rfl⟩

theorem State.afterInstruction_withIme (s : State) (b : Bool) :
    ∃ b', (s.withIme b).afterInstruction = s.afterInstruction.withIme b' := by
  cases hf : s.fault with
  | none =>
    rw [State.afterInstruction_of_fault hf, State.afterInstruction_of_fault (s := s.withIme b) hf]
    exact s.endStep_withIme b
  | some r => exact ⟨b, by simp only [State.afterInstruction, State.withIme, hf]⟩

theorem State.dispatches_of_irqDispatch_false {s : State} (h : s.cfg.irqDispatch = false) : s.dispatches = false := by
  simp [State.dispatches, h]

/-- Without `IRQ_DISPATCH` a CPU step reads no `ime`: it idles or runs in both states alike (R410). -/
theorem State.cpuStep_withIme {s u : State} (hirq : s.cfg.irqDispatch = false) (h : s.cpuStep = .next u) (b : Bool) :
    ∃ b', (s.withIme b).cpuStep = .next (u.withIme b') := by
  obtain ⟨hhalted, hpending, idle⟩ | ⟨-, htaken, -⟩ | ⟨hruns, -, t, run, instruction⟩ := cpuStep_cases s
  · obtain rfl := Host.Outcome.next.inj (h.symm.trans idle)
    rw [State.cpuStep_of_idle (s := s.withIme b) hhalted hpending]
    obtain ⟨b', hb⟩ := ({ s with wroteSchedule := false }.returns 4).endStep_withIme b
    exact ⟨b', congrArg Host.Outcome.next hb⟩
  · simp [State.dispatches_of_irqDispatch_false hirq] at htaken
  · obtain rfl := Host.Outcome.next.inj (h.symm.trans instruction)
    rw [exec_eq_execForm] at run
    obtain ⟨b', hb⟩ := execForm_withIme run b
    have hexec : exec (s.withIme b).fetched (s.withIme b).awake.pastFetched = .next (t.withIme b') := by
      rw [exec_eq_execForm]
      exact hb
    obtain ⟨b'', hb'⟩ := t.afterInstruction_withIme b'
    exact ⟨b'', hb' ▸ State.cpuStep_of_runs (s := s.withIme b) hruns
      (State.dispatches_of_irqDispatch_false hirq) hexec⟩

theorem State.afterCpu_withIme (s : State) (b : Bool) : (s.withIme b).afterCpu = s.afterCpu.withIme b := by
  cases hf : s.fault <;> simp only [State.afterCpu, State.withIme, hf]

/-! ### The tick and the draw -/

theorem copyToOam_withIme (src : Word) (k m : Nat) (s : State) (b : Bool) :
    copyToOam src k m (s.withIme b) = (copyToOam src k m s).withIme b := by
  induction m generalizing k s with
  | zero => rfl
  | succ m ih =>
    rw [copyToOam, copyToOam, ← ih]
    rfl

theorem State.dmaProgress_withIme (s : State) (b : Bool) (n : Nat) :
    (s.withIme b).dmaProgress n = (s.dmaProgress n).withIme b := by
  cases hdma : s.dma with
  | inactive => simp only [State.dmaProgress, State.withIme, hdma]
  | active src k res =>
    rw [State.dmaProgress_of_active (s := s.withIme b) hdma, State.dmaProgress_of_active hdma, copyToOam_withIme]
    rfl

theorem State.timerReload_withIme (s : State) (b : Bool) :
    (s.withIme b).timerReload = s.timerReload.withIme b := by
  unfold State.timerReload
  by_cases hpending : s.overflow = true
  · rw [if_pos hpending, if_pos (by exact hpending)]
    rfl
  · rw [if_neg hpending, if_neg (by exact hpending)]

theorem State.tick_withIme (s : State) (b : Bool) (n : Nat) : (s.withIme b).tick n = (s.tick n).withIme b := by
  unfold State.tick
  rw [State.dmaProgress_withIme, State.timerReload_withIme]
  rfl

theorem State.tickTransition_withIme (s : State) (b : Bool) :
    (s.withIme b).tickTransition = s.tickTransition.withIme b := by
  have hcycles : (s.withIme b).cycles = s.cycles := rfl
  simp only [State.tickTransition, hcycles, State.tick_withIme]
  rfl

/-- The PPU depends on memory and the parameters alone (R459). -/
theorem State.drawTransition_withIme (s : State) (b : Bool) :
    (s.withIme b).drawTransition = s.drawTransition.withIme b := by
  have hmem : (s.withIme b).afterDraw.mem = s.afterDraw.mem := State.afterDraw_mem_congr (by rfl) (by rfl)
  have hline : (s.withIme b).drawnLine = s.drawnLine := State.drawnLine_congr (by rfl) (by rfl)
  unfold State.drawTransition
  rw [State.afterDraw_eq, State.afterDraw_eq s, hmem, hline]
  rfl

/-- Settles O33, by the four transitions of a step. -/
theorem imeIsNotRead : Obligations.ImeIsNotRead := by
  unfold Obligations.ImeIsNotRead
  intro s t b hirq h
  show ∃ b', step (s.withIme b) = .next (t.withIme b')
  obtain ⟨hf, ⟨hp, rfl⟩ | ⟨hp, u, hu, rfl⟩ | ⟨hp, rfl⟩ | ⟨hp, rfl⟩⟩ := step_cases h
  · exact ⟨b, step_of_writeLy (s := s.withIme b) hf hp⟩
  · obtain ⟨b', hb⟩ := State.cpuStep_withIme hirq hu b
    exact ⟨b', u.afterCpu_withIme b' ▸ step_of_cpuStep (s := s.withIme b) hf hp hb⟩
  · exact ⟨b, s.tickTransition_withIme b ▸ step_of_tick (s := s.withIme b) hf hp⟩
  · exact ⟨b, s.drawTransition_withIme b ▸ step_of_draw (s := s.withIme b) hf hp⟩

end Sys2Proof.Machine
end

section
/-! SUPPORT. A halted CPU without a source of interrupts (O35): no transition sets a request that it waits for. -/

namespace Sys2Proof.Machine

/-- The CPU is halted with nothing pending, and VBlank, STAT and timer, the sources that the block itself requests, are
off in IE (R413). -/
structure State.HaltedWithoutSource (s : State) : Prop where
  halted : s.halted = true
  notPending : s.pending = 0#8
  sourcesOff : s.rawRead 0xFFFF &&& 0x07 = 0#8

/-- `t` differs from `s`, as the halted CPU sees it, by requests of VBlank, STAT and timer alone. -/
structure RequestsOnly (s t : State) : Prop where
  halted : t.halted = s.halted
  pc : t.pc = s.pc
  enable : t.rawRead 0xFFFF = s.rawRead 0xFFFF
  requests : ∃ r : Byte, r &&& 0x07 = r ∧ t.rawRead 0xFF0F = s.rawRead 0xFF0F ||| r

theorem RequestsOnly.of_mem {s t : State} (halted : t.halted = s.halted) (pc : t.pc = s.pc) (hmem : t.mem = s.mem) :
    RequestsOnly s t :=
  ⟨halted, pc, State.rawRead_congr hmem _, 0, rfl, (State.rawRead_congr hmem _).trans BitVec.or_zero.symm⟩

/-- A request that is not enabled is not pending (R413). -/
theorem State.HaltedWithoutSource.pending_of_requestsOnly {s t : State} (h : s.HaltedWithoutSource)
    (hst : RequestsOnly s t) : t.pending = 0 := by
  obtain ⟨-, notPending, sourcesOff⟩ := h
  obtain ⟨-, -, enable, r, hr, hif⟩ := hst
  have off : s.rawRead 0xFFFF &&& r = 0#8 := by
    rw [← hr, BitVec.and_comm r, ← BitVec.and_assoc, sourcesOff, BitVec.zero_and]
  unfold State.pending at notPending ⊢
  rw [enable, hif, BitVec.and_or_distrib_left, off, BitVec.or_zero]
  exact notPending

/-! ### The four transitions -/

theorem State.tick_pc (s : State) (n : Nat) : (s.tick n).pc = s.pc := by rw [State.tick_eq]
theorem State.afterDraw_halted (s : State) : s.afterDraw.halted = s.halted := by rw [State.afterDraw_eq]
theorem State.afterDraw_pc (s : State) : s.afterDraw.pc = s.pc := by rw [State.afterDraw_eq]
@[simp] theorem State.afterCpu_halted (s : State) : s.afterCpu.halted = s.halted := by
  unfold State.afterCpu
  split <;> rfl
@[simp] theorem State.afterCpu_pc (s : State) : s.afterCpu.pc = s.pc := by
  unfold State.afterCpu
  split <;> rfl
@[simp] theorem State.afterCpu_mem (s : State) : s.afterCpu.mem = s.mem := State.mem_eq_of_bus s.bus_afterCpu

theorem State.lyTransition_requestsOnly (s : State) : RequestsOnly s s.lyTransition where
  halted := rfl
  pc := rfl
  enable := (s.rawRead_rawWrite 0xFF44 _ _).trans (if_neg (by decide))
  requests := ⟨0, rfl, (s.rawRead_rawWrite 0xFF44 _ _).trans ((if_neg (by decide)).trans BitVec.or_zero.symm)⟩

theorem State.HaltedWithoutSource.afterCpu_requestsOnly {s u : State} (h : s.HaltedWithoutSource)
    (hu : s.cpuStep = .next u) : RequestsOnly s u.afterCpu := by
  obtain rfl := Host.Outcome.next.inj (hu.symm.trans (State.cpuStep_of_idle h.halted h.notPending))
  refine .of_mem ?_ ?_ ?_ <;> simp

/-- A tick requests the timer's interrupt where a reload was pending (R432). -/
theorem State.tickTransition_requestsOnly (s : State) : RequestsOnly s s.tickTransition := by
  obtain ⟨-, -, -, -, hif⟩ := tickOfTimer s (s.cycles.getD 0)
  refine ⟨s.tick_halted _, s.tick_pc _,
    s.rawRead_tick_of_ne _ _ (by decide) (by decide) (by decide) (by decide), if s.overflow then 0x04 else 0, ?_, ?_⟩
  · split <;> rfl
  · refine (hif :).trans ?_
    split <;> simp

/-- A line requests STAT and VBlank at most (R454, R455). -/
theorem State.drawTransition_requestsOnly (s : State) : RequestsOnly s s.drawTransition := by
  refine ⟨s.afterDraw_halted, s.afterDraw_pc,
    s.rawRead_afterDraw_of_ne _ (by decide) (by decide), ?_⟩
  obtain ⟨hoff, hon⟩ := coincidenceAndVblank s
  cases henabled : s.lcdc.getLsbD 7 with
  | false =>
    exact ⟨0, rfl, (State.rawRead_congr (congrArg State.mem (hoff henabled)) _).trans BitVec.or_zero.symm⟩
  | true =>
    obtain ⟨-, -, hif, -⟩ := hon henabled
    refine ⟨_, ?_, hif⟩
    split_ifs <;> rfl

/-- Settles O35, by the four transitions of a step: the CPU idles, and the other agents make requests alone. -/
theorem haltWithoutSourceNeverEnds : Obligations.HaltWithoutSourceNeverEnds := by
  unfold Obligations.HaltWithoutSourceNeverEnds
  intro s t hhalted hpending hsources h
  have waits : s.HaltedWithoutSource := ⟨hhalted, hpending, hsources⟩
  have requests : RequestsOnly s t := by
    obtain ⟨-, ⟨-, rfl⟩ | ⟨-, u, hu, rfl⟩ | ⟨-, rfl⟩ | ⟨-, rfl⟩⟩ := step_cases h
    · exact s.lyTransition_requestsOnly
    · exact waits.afterCpu_requestsOnly hu
    · exact s.tickTransition_requestsOnly
    · exact s.drawTransition_requestsOnly
  have noError : t.fault = none := by
    refine (step_fault_cases h).resolve_right ?_
    rintro ⟨-, hfetch, -⟩
    exact absurd hpending (hfetch.runs.resolve_left (by simp [hhalted]))
  exact ⟨requests.halted.trans hhalted, waits.pending_of_requestsOnly requests, requests.enable, requests.pc,
    noError⟩

end Sys2Proof.Machine
end

section
/-! SUPPORT. The host loop (O52): what each phase of a line does. -/

namespace Sys2Proof.Machine

theorem State.tickTransition_of_cycles {s : State} {n : Nat} (h : s.cycles = some n) :
    s.tickTransition = { s.tick n with
      budget := s.budget + n
      phase := if s.budget + n < s.cfg.lineBudget then .cpu else .draw } := by
  simp only [State.tickTransition, h, Option.getD_some, s.tick_budget n]
  unfold State.loopTest
  simp

/-- Settles O52: a constructed machine is reset but for its memory, PC and parameters; then phase by phase. -/
theorem hostLoop : Obligations.HostLoop := by
  unfold Obligations.HostLoop
  refine ⟨rfl, fun g image s h => ?_, fun s hf => ⟨?_, ?_, ?_, ?_⟩⟩
  · unfold construct at h
    split at h
    · cases h
      exact ⟨rfl, rfl, rfl⟩
    · cases h
  · exact step_of_writeLy hf
  · intro hp
    obtain ⟨t, ht⟩ := s.cpuStep_next
    refine ⟨t, ht, (step_of_cpuStep hf hp ht).trans ?_⟩
    cases hfault : t.fault <;> simp [State.afterCpu, hfault]
  · intro hp n hn
    rw [step_of_tick hf hp, State.tickTransition_of_cycles hn]
  · intro hp hline
    have hnext : (s.line + 1) % 154 = if s.line = 153 then 0 else s.line + 1 := by
      split <;> omega
    rw [step_of_draw hf hp, ← hnext]
    rfl

end Sys2Proof.Machine
end

section
/-! SUPPORT. The reset state (O55): what construction from a fitting image gives. -/

namespace Sys2Proof.Machine

/-- Construction from an image that fits sets memory, PC and the parameters of the reset state (R500). -/
theorem construct_of_length_le {g : Config} {image : List Byte} (h : image.length ≤ 32768) :
    construct g image = .machine { State.reset with
      mem := constructedMemory g image, pc := entryAddress g.entryPc, cfg := g } :=
  if_pos (decide_eq_true h)

theorem constructedMemory_default_nil : constructedMemory Config.default [] = [] := rfl

theorem entryAddress_default : entryAddress Config.default.entryPc = State.reset.pc := rfl

/-- Settles O55: the empty image fits, it and the absent boot image list no byte, and the entry is the reset PC. -/
theorem resetIsConstruction : Obligations.ResetIsConstruction := by
  unfold Obligations.ResetIsConstruction
  have constructed : construct Config.default [] = .machine State.reset := by
    rw [construct_of_length_le (Nat.zero_le _), constructedMemory_default_nil, entryAddress_default]
    rfl
  exact ⟨constructed, rfl, rfl, by decide, rfl⟩

end Sys2Proof.Machine
end
